-- ==== Sys2Proof/Word.lean ====
section
/-! DEFINITION. The plain value types every other file is written in: bytes, 32-bit patterns, frames and payloads
(spec 00_scope.md R7, 10_state.md R18), and the words that cross the block's buses. -/

namespace Sys2Proof

/-- A byte: 8 bits, read as an unsigned integer 0 to 255 (R7, R18). -/
abbrev Byte := BitVec 8

/-- `W32`: a 32-bit pattern; a binary32 component is carried as its pattern and nothing else (R7, R18). -/
abbrev W32 := BitVec 32

/-- A frame: an ordered sequence of exactly 16 bytes `F[0]` to `F[15]` (R7, R18, R31). -/
abbrev Frame := Vector Byte 16

/-- A payload: an ordered sequence of exactly 12 bytes, `P[j] = F[2 + j]` (R7, R18, R37). -/
abbrev Payload := Vector Byte 12

/-- A frame on the 128-bit bus, byte 0 in the least significant bits (R7). -/
abbrev FrameWord := BitVec 128

/-- An S channel request word, format SREQ, 70 bits (R66). -/
abbrev SReqWord := BitVec 70

/-- A P channel request word, format PREQ, 131 bits (R67). -/
abbrev PReqWord := BitVec 131

end Sys2Proof
end

