-- ==== Sys2Proof/Config.lean ====
section
/-! DEFINITION. The configuration record: the named constants of spec 00_scope.md R5, the parameters of R6, and the
parameters the spec leaves open. Numeric literals are as the spec has them; the spec itself calls them unaudited (D19,
assumption 22). -/

namespace Sys2Proof.Config

/-! ## Constants (R5) -/

/-- Bytes in a frame (R5). -/
abbrev FRAME_LEN : Nat := 16
/-- Frame offset of payload byte 0 (R5). -/
abbrev PAYLOAD_OFF : Nat := 2
/-- Bytes in the payload (R5). -/
abbrev PAYLOAD_LEN : Nat := 12
/-- Frame offset of the reserved checksum byte (R5). -/
abbrev CHECKSUM_OFF : Nat := 14
/-- Frame offset of the start marker (R5). -/
abbrev START_OFF : Nat := 0
/-- Frame offset of the end marker (R5). -/
abbrev END_OFF : Nat := 15
/-- Frame offset of the module identifier (R5). -/
abbrev MODULE_OFF : Nat := 1
/-- Value of frame byte 0 (R5). -/
abbrev START_MARKER : Byte := 0x0A
/-- Value of frame byte 15 (R5). -/
abbrev END_MARKER : Byte := 0x0F
/-- Module identifier of Ballast (R5). -/
abbrev ID_BALLAST : Byte := 0x00
/-- Module identifier of Propulsion (R5). -/
abbrev ID_PROPULSION : Byte := 0x01
/-- Module identifier of Light (R5). -/
abbrev ID_LIGHT : Byte := 0x02
/-- Wire state code of Ballast Idle (R5, R54). -/
abbrev BALLAST_IDLE : Byte := 0
/-- Wire state code of Ballast Intake (R5, R54). -/
abbrev BALLAST_INTAKE : Byte := 1
/-- Wire state code of Ballast Discharge (R5, R54). -/
abbrev BALLAST_DISCHARGE : Byte := 2
/-- Wire state code of Light Off (R5, R54). -/
abbrev LIGHT_OFF : Byte := 0
/-- Wire state code of Light On (R5, R54). -/
abbrev LIGHT_ON : Byte := 1
/-- Wire state code of Light Blink (R5, R54). -/
abbrev LIGHT_BLINK : Byte := 2
/-- Payload offset of the x component (R5). -/
abbrev X_OFF : Nat := 0
/-- Payload offset of the y component (R5). -/
abbrev Y_OFF : Nat := 4
/-- Bytes per component, little-endian binary32 (R5). -/
abbrev COMPONENT_LEN : Nat := 4

/-! ## Parameters (R6) -/

/-- The build-time parameters of R6 that a rule reads. R17: "a model takes them as arguments of the step relation"; a
step's one argument is the state, which carries them unchanged (assumptions 8 and 9). -/
structure Params where
  /-- ENC.LIGHT produces a frame (true), or raises Unimplemented (false, the upstream behaviour): R6, R102, D7. -/
  LIGHT_ENCODE_IMPLEMENTED : Bool
  /-- The advisory diagnostic record is produced (R6, R94, D15). -/
  DIAG_PRESENT : Bool
  deriving DecidableEq, Repr

/-- The values R6 takes. -/
def taken : Params := { LIGHT_ENCODE_IMPLEMENTED := true, DIAG_PRESENT := true }

/-- R6: "false, fixed: no algorithm exists in any source, so it cannot be true". CHECKSUM has one meaning (R104), so no
definition branches on it (assumption 17). -/
abbrev CHECKSUM_IMPLEMENTED : Bool := false

/-- R6: "an Unimplemented fault stops the whole block until reset". The spec describes only this value (assumption 15). -/
abbrev FAULT_IS_STICKY : Bool := true

/-! ## Parameters the spec leaves OPEN, read by no rule (R6, D18, D20; assumption 16) -/

/-- Cycles between a request and its response on the S channel: OPEN, no rule depends on it (R6, R170). -/
opaque LATENCY_S : Nat

/-- Cycles between a request and its response on the P channel: OPEN, no rule depends on it (R6, R170). -/
opaque LATENCY_P : Nat

/-- The order in which the 16 bytes cross a serial link, as the offset sent at each place: OPEN, belongs to the
transport, read by no rule (R6, R35). -/
opaque WIRE_BYTE_ORDER : Fin 16 → Fin 16

end Sys2Proof.Config
end

