-- ==== Sys2Proof/Syntax.lean ====
section
/-! DEFINITION. The document's data model (spec 10_state.md R18), the responses and errors (R69, R135), and `Instr`: one
constructor per row of spec/opcode_table.json (the seven command words of R56 and the eleven operations of R70). -/

namespace Sys2Proof

/-- A logical module; "Purely descriptive; carries no data itself" (R18). -/
inductive Module where
  | ballast
  | light
  | propulsion
  deriving DecidableEq, Repr

/-- BallastCommand, in the document's order (R18). -/
inductive BallastCommand where
  | idle
  | intake
  | discharge
  deriving DecidableEq, Repr

/-- LightCommand, in the document's order On, Off, Blink (R18). -/
inductive LightCommand where
  | on
  | off
  | blink
  deriving DecidableEq, Repr

/-- Two binary32 components as bit patterns, "not normalized, not bounds-checked"; equality is equality of patterns
(R18, D14, assumption 14). -/
structure DirectionVector where
  x : W32
  y : W32
  deriving DecidableEq, Repr

/-- PropulsionCommand: SetThrust is the only variant (R18). -/
inductive PropulsionCommand where
  | setThrust (v : DirectionVector)
  deriving DecidableEq, Repr

/-- A command, tagged with its module (R18). -/
inductive Command where
  | ballast (c : BallastCommand)
  | light (c : LightCommand)
  | propulsion (c : PropulsionCommand)
  deriving DecidableEq, Repr

/-- The module a command is for (R18). -/
def Command.module : Command → Module
  | .ballast _ => .ballast
  | .light _ => .light
  | .propulsion _ => .propulsion

/-- The two channels of the block: S, the payload serializer, and P, the frame parser (R2, R19, R20). -/
inductive Channel where
  | S
  | P
  deriving DecidableEq, Repr

/-- One constructor per row of the opcode table. A request is a value of a sum type in which an ill-formed request cannot be
written (R66, R67); fields a request does not read, and frame bytes outside a command word's mask, are not part of it. -/
inductive Instr where
  /-- R57: a received frame spelling `Ballast(Idle)`. -/
  | ballastIdle
  /-- R58: a received frame spelling `Ballast(Intake)`. -/
  | ballastIntake
  /-- R59: a received frame spelling `Ballast(Discharge)`. -/
  | ballastDischarge
  /-- R60: a received frame spelling `Light(Off)`. -/
  | lightOff
  /-- R61: a received frame spelling `Light(On)`. -/
  | lightOn
  /-- R62: a received frame spelling `Light(Blink)`. -/
  | lightBlink
  /-- R63: a received frame spelling `Propulsion(SetThrust((x, y)))`. -/
  | propSetThrust (v : DirectionVector)
  /-- R80: LOOKUP id. -/
  | lookup (id : Byte)
  /-- R85: TEMPLATE. -/
  | template
  /-- R90: VALIDATE F. -/
  | validate (f : Frame)
  /-- R101: ENC.BALLAST c. -/
  | encBallast (c : BallastCommand)
  /-- R102: ENC.LIGHT c. -/
  | encLight (c : LightCommand)
  /-- R103: ENC.PROP c. -/
  | encProp (c : PropulsionCommand)
  /-- R104: CHECKSUM. -/
  | checksum
  /-- R116: DEC.BALLAST P. -/
  | decBallast (p : Payload)
  /-- R118: DEC.PROP P. -/
  | decProp (p : Payload)
  /-- R117: DEC.LIGHT P. -/
  | decLight (p : Payload)
  /-- R119: PARSE F. -/
  | parse (f : Frame)
  deriving DecidableEq, Repr

/-- The channel an instruction is served on (R70); a received frame is the parser's (assumption 3). -/
def Instr.channel : Instr → Channel
  | .template => .S
  | .encBallast _ => .S
  | .encLight _ => .S
  | .encProp _ => .S
  | .checksum => .S
  | .lookup _ => .P
  | .validate _ => .P
  | .decBallast _ => .P
  | .decProp _ => .P
  | .decLight _ => .P
  | .parse _ => .P
  | .ballastIdle => .P
  | .ballastIntake => .P
  | .ballastDischarge => .P
  | .lightOff => .P
  | .lightOn => .P
  | .lightBlink => .P
  | .propSetThrust _ => .P

/-- The bits the host can present for one instruction: a request word of either channel (R66, R67), or a received frame
(R56). -/
inductive Presented where
  | sreq (w : SReqWord)
  | preq (w : PReqWord)
  | frame (w : FrameWord)
  deriving DecidableEq, Repr

/-! ## Errors and responses -/

/-- The two causes of a StructuralError, each with the observed bytes as information (R18, R135, R136). -/
inductive StructuralError where
  | markerMismatch (obsStart obsEnd : Byte)
  | unknownModule (obsId : Byte)
  deriving DecidableEq, Repr

/-- DecodeError, "unrecognized command variant", with the module and the offending discriminant (R18, R135, R137). -/
structure DecodeError where
  module : Module
  discriminant : Byte
  deriving DecidableEq, Repr

/-- The two sub-causes of Unimplemented (R135, R138). -/
inductive Unimplemented where
  | lightEncode
  | checksum
  deriving DecidableEq, Repr

/-- The Validator's advisory record (R90, R94); the expected values and the valid identifiers are constants and have no
port. -/
inductive Diag where
  /-- `check = 0`. -/
  | passed
  /-- `check = 1` with the observed `F[0]` and `F[15]`. -/
  | markers (obsStart obsEnd : Byte)
  /-- `check = 2` with the observed `F[1]`. -/
  | moduleId (obsId : Byte)
  deriving DecidableEq, Repr

/-- The answer of a payload decoder (R69, R115). -/
inductive DecodeResult where
  | ok (c : Command)
  | error (e : DecodeError)
  deriving DecidableEq, Repr

/-- PARSE's three-way answer (R69, R119, D12). -/
inductive ParseResult where
  | ok (c : Command)
  | structuralError (e : StructuralError)
  | decodeError (e : DecodeError)
  deriving DecidableEq, Repr

/-- A P channel response, one shape per operation (R69). The diagnostic is absent when DIAG_PRESENT is false (R94). -/
inductive PResponse where
  | looked (m : Option Module)
  | validated (valid : Bool) (diag : Option Diag)
  | decoded (r : DecodeResult)
  | parsed (r : ParseResult) (diag : Option Diag)
  deriving DecidableEq, Repr

end Sys2Proof
end

