-- ==== Sys2Proof/Machine/Operands.lean ====
section
/-! DEFINITION. Operand forms: byte order and bus maps, frame and payload field access, the registry and the code tables, the
template and the encoded frame of a command, and the fields of the two request words (spec 00_scope.md R7, R8; 10_state.md
R13; 20_memory.md R31 to R34; 30_encoding.md R50 to R55, R66, R67; 41_framer.md R85; 43_encode.md R100). -/

namespace Sys2Proof.Machine

/-! ## Byte order (R7, R8, R34) -/

/-- The `n`-bit word whose bits `8i+7:8i` are the list's byte `i` (R7: byte 0 in the least significant bits). -/
def packBytes (n : Nat) : List Byte → BitVec n
  | [] => 0
  | b :: bs => b.setWidth n ||| (packBytes n bs <<< 8)

/-- Bits `8i+7:8i` of a word. -/
def byteOf {n : Nat} (w : BitVec n) (i : Nat) : Byte := w.extractLsb' (8 * i) 8

/-- `le32(b0, b1, b2, b3)` (R8). -/
def le32 (b0 b1 b2 b3 : Byte) : W32 := packBytes 32 [b0, b1, b2, b3]

/-- `bytes_le32(w)`: `(w[7:0], w[15:8], w[23:16], w[31:24])` (R8). -/
def bytesLe32 (w : W32) : List Byte := [byteOf w 0, byteOf w 1, byteOf w 2, byteOf w 3]

/-- A frame from its bus value, `F[i] = frame[8i+7:8i]` (R7, D2). -/
def frameOfBus (w : FrameWord) : Frame :=
  #v[byteOf w 0, byteOf w 1, byteOf w 2, byteOf w 3, byteOf w 4, byteOf w 5, byteOf w 6, byteOf w 7,
    byteOf w 8, byteOf w 9, byteOf w 10, byteOf w 11, byteOf w 12, byteOf w 13, byteOf w 14, byteOf w 15]

/-- The bus value of a frame (R7, D2). -/
def frameToBus (F : Frame) : FrameWord := packBytes 128 F.toList

/-- A payload from its bus value, `P[j] = payload[8j+7:8j]` (R7). -/
def payloadOfBus (w : BitVec 96) : Payload :=
  #v[byteOf w 0, byteOf w 1, byteOf w 2, byteOf w 3, byteOf w 4, byteOf w 5, byteOf w 6, byteOf w 7,
    byteOf w 8, byteOf w 9, byteOf w 10, byteOf w 11]

/-- The bus value of a payload (R7). -/
def payloadToBus (P : Payload) : BitVec 96 := packBytes 96 P.toList

/-! ## Field access in a frame (R8, R31, R124) -/

/-- `FrameWrite(F, off, n, v)`: `F[off+k]` takes the `k`-th byte of `v` (R8). -/
def frameWrite (F : Frame) (off : Nat) : List Byte → Frame
  | [] => F
  | b :: bs => frameWrite (F.setIfInBounds off b) (off + 1) bs

/-- The payload of a frame, `P[j] = F[2+j]`, frame bytes 2 to 13 (R7, R31). -/
def payloadOf (F : Frame) : Payload :=
  #v[F[2], F[3], F[4], F[5], F[6], F[7], F[8], F[9], F[10], F[11], F[12], F[13]]

/-- The state code of a STATE payload: payload byte 0 as an unsigned byte (R32, R54). -/
def stateCode (P : Payload) : Byte := P[0]

/-- The two components of a VEC payload (R33, R55). -/
def vectorOf (P : Payload) : DirectionVector :=
  { x := le32 P[0] P[1] P[2] P[3], y := le32 P[4] P[5] P[6] P[7] }

/-! ## The registry (R13) -/

/-- `REGISTRY(id)`: the constant table of R13. -/
def registry (id : Byte) : Option Module :=
  if id = Config.ID_BALLAST then some .ballast
  else if id = Config.ID_PROPULSION then some .propulsion
  else if id = Config.ID_LIGHT then some .light
  else none

/-- `validId(id) := REGISTRY(id) ≠ None` (R82). -/
def validId (id : Byte) : Bool := (registry id).isSome

/-- The registry's key of a module, used by the encoders as a constant (R81, R100). -/
def moduleId : Module → Byte
  | .ballast => Config.ID_BALLAST
  | .propulsion => Config.ID_PROPULSION
  | .light => Config.ID_LIGHT

/-! ## Wire state codes (R54) -/

/-- Ballast: Idle 0, Intake 1, Discharge 2 (R54). -/
def ballastWire : BallastCommand → Byte
  | .idle => Config.BALLAST_IDLE
  | .intake => Config.BALLAST_INTAKE
  | .discharge => Config.BALLAST_DISCHARGE

/-- Light: On 1, Off 0, Blink 2 (R54, R166). -/
def lightWire : LightCommand → Byte
  | .on => Config.LIGHT_ON
  | .off => Config.LIGHT_OFF
  | .blink => Config.LIGHT_BLINK

/-- R54 read from code to variant, Ballast: the other 253 bytes are no code. -/
def ballastOfWire (b : Byte) : Option BallastCommand :=
  if b = Config.BALLAST_IDLE then some .idle
  else if b = Config.BALLAST_INTAKE then some .intake
  else if b = Config.BALLAST_DISCHARGE then some .discharge
  else none

/-- R54 read from code to variant, Light. -/
def lightOfWire (b : Byte) : Option LightCommand :=
  if b = Config.LIGHT_OFF then some .off
  else if b = Config.LIGHT_ON then some .on
  else if b = Config.LIGHT_BLINK then some .blink
  else none

/-! ## Port codes of a command (R19, R20, R54 last column; D5) -/

/-- Module tag on the ports: the module identifier's number in two bits (R19, R20). -/
def modulePort : Module → BitVec 2
  | .ballast => 0
  | .propulsion => 1
  | .light => 2

/-- Ballast variant code on the ports: the position in the document's list (R54). -/
def ballastPort : BallastCommand → BitVec 2
  | .idle => 0
  | .intake => 1
  | .discharge => 2

/-- Light variant code on the ports: the position in the document's list, not the wire code (R54). -/
def lightPort : LightCommand → BitVec 2
  | .on => 0
  | .off => 1
  | .blink => 2

/-- `s_cmd_variant` read as a Ballast variant; 3 is reserved (R19, R71). -/
def ballastOfPort (v : BitVec 2) : Option BallastCommand :=
  if v = 0 then some .idle else if v = 1 then some .intake else if v = 2 then some .discharge else none

/-- `s_cmd_variant` read as a Light variant; 3 is reserved (R19, R71). -/
def lightOfPort (v : BitVec 2) : Option LightCommand :=
  if v = 0 then some .on else if v = 1 then some .off else if v = 2 then some .blink else none

/-! ## The template and the encoded frame of a command (R85, R100) -/

/-- `T`: all zero, then the start marker at byte 0 and the end marker at byte 15 (R85). -/
def templateFrame : Frame :=
  frameWrite (frameWrite #v[0, 0, 0, 0, 0, 0, 0, 0, 0, 0, 0, 0, 0, 0, 0, 0] Config.START_OFF [Config.START_MARKER])
    Config.END_OFF [Config.END_MARKER]

/-- The bytes an encoder writes from payload byte 0 on (R101, R102, R103). -/
def payloadFields : Command → List Byte
  | .ballast c => [ballastWire c]
  | .light c => [lightWire c]
  | .propulsion (.setThrust v) => bytesLe32 v.x ++ bytesLe32 v.y

/-- `ENCODE(c)`: the template, the module identifier at byte 1, the payload fields from byte 2 (R100). It is also the
canonical frame of the command's word (R56). -/
def encodeCommand (c : Command) : Frame :=
  frameWrite (frameWrite templateFrame Config.MODULE_OFF [moduleId c.module]) Config.PAYLOAD_OFF (payloadFields c)

/-! ## Fields of the request words (R66, R67) -/

/-- `s_op`, bits 1:0. -/
def sOp (w : SReqWord) : BitVec 2 := w.extractLsb' 0 2
/-- `s_cmd_module`, bits 3:2. -/
def sCmdModule (w : SReqWord) : BitVec 2 := w.extractLsb' 2 2
/-- `s_cmd_variant`, bits 5:4. -/
def sCmdVariant (w : SReqWord) : BitVec 2 := w.extractLsb' 4 2
/-- `s_cmd_x`, bits 37:6. -/
def sCmdX (w : SReqWord) : W32 := w.extractLsb' 6 32
/-- `s_cmd_y`, bits 69:38. -/
def sCmdY (w : SReqWord) : W32 := w.extractLsb' 38 32
/-- `p_op`, bits 2:0. -/
def pOp (w : PReqWord) : BitVec 3 := w.extractLsb' 0 3
/-- `p_data`, bits 130:3. -/
def pData (w : PReqWord) : BitVec 128 := w.extractLsb' 3 128
/-- The ModuleId operand, `p_data[7:0]`; higher bits are not read. -/
def pModuleId (w : PReqWord) : Byte := (pData w).extractLsb' 0 8
/-- The Payload operand, `p_data[95:0]`; higher bits are not read. -/
def pPayload (w : PReqWord) : Payload := payloadOfBus ((pData w).extractLsb' 0 96)
/-- The Frame operand, `p_data[127:0]`. -/
def pFrame (w : PReqWord) : Frame := frameOfBus (pData w)

/-- An SREQ word from its fields (R66). -/
def sReqWord (op m v : BitVec 2) (x y : W32) : SReqWord :=
  op.setWidth 70 ||| m.setWidth 70 <<< 2 ||| v.setWidth 70 <<< 4 ||| x.setWidth 70 <<< 6 ||| y.setWidth 70 <<< 38

/-- A PREQ word from its fields (R67). -/
def pReqWord (op : BitVec 3) (data : BitVec 128) : PReqWord := op.setWidth 131 ||| data.setWidth 131 <<< 3

end Sys2Proof.Machine
end

