-- ==== Sys2Proof/WellFormed.lean ====
section
/-! DEFINITION. Well-formedness: of request words (spec 30_encoding.md R66, R67, R71), of what the host presents, and the
shape of a canonical frame (R65). Every value of `Instr` is well-formed by its types: R66, "a value of a sum type ... in which
an ill-formed request cannot be written". -/

namespace Sys2Proof

open Machine

/-- R66: `s_op` is 0, 1 or 2 and, if `s_op = 1`, the module is 0, 1 or 2 and the variant is 0, 1 or 2 for module 0 or 2 and
is 0 for module 1. -/
def sReqWellFormed (w : SReqWord) : Bool :=
  sOp w != 3 &&
    (sOp w != 1 ||
      (sCmdModule w != 3 && (if sCmdModule w = 1 then sCmdVariant w == 0 else sCmdVariant w != 3)))

/-- R67: `p_op` is 0 to 5. -/
def pReqWellFormed (w : PReqWord) : Bool := pOp w != 6 && pOp w != 7

/-- R64, first class tested: both markers are right. -/
def markersGood (F : Frame) : Bool :=
  F[0] == Config.START_MARKER && F[15] == Config.END_MARKER

/-- R64, last class: the frame spells a command. -/
def spellsCommand (F : Frame) : Bool :=
  markersGood F &&
    match registry F[1] with
    | some .ballast => (ballastOfWire (stateCode (payloadOf F))).isSome
    | some .light => (lightOfWire (stateCode (payloadOf F))).isSome
    | some .propulsion => true
    | none => false

/-- R65: the reserved fields of a frame with a known module are zero: `checksum`, and `unused` of STATE (F[3..13]) or of VEC
(F[10..13]). -/
def reservedZero (F : Frame) : Bool :=
  F[14] == 0 && F[10] == 0 && F[11] == 0 && F[12] == 0 && F[13] == 0 &&
    (registry F[1] == some .propulsion ||
      (F[3] == 0 && F[4] == 0 && F[5] == 0 && F[6] == 0 && F[7] == 0 && F[8] == 0 && F[9] == 0))

/-- What the host presents is well-formed: a request word as R66 or R67 says, a frame when it spells a command. -/
def Presented.wellFormed : Presented → Bool
  | .sreq w => sReqWellFormed w
  | .preq w => pReqWellFormed w
  | .frame w => spellsCommand (frameOfBus w)

end Sys2Proof
end

