-- ==== Sys2Proof/Decode.lean ====
section
/-! DEFINITION. From the bits the host presents to an instruction, total, rejecting by name (spec 30_encoding.md R56, R64, R66,
R67, R71), and back (the encoder). -/

namespace Sys2Proof

open Machine

/-- Why a request word is ill-formed (R71). -/
inductive RequestReject where
  /-- `s_op = 3`, or `p_op` of 6 or 7. -/
  | reservedOperation
  /-- `s_cmd_module = 3` with `s_op = 1`. -/
  | reservedModule
  /-- `s_cmd_variant = 3` with `s_op = 1`, or 1, 2 or 3 with module 1. -/
  | reservedVariant
  deriving DecidableEq, Repr

/-- Why a frame spells no command: the first three classes of R64. -/
inductive FrameReject where
  | badMarker
  | unknownModule
  | unknownVariant
  deriving DecidableEq, Repr

/-- Why what the host presents is no instruction. -/
inductive DecodeReject where
  | request (why : RequestReject)
  | frame (why : FrameReject)
  deriving DecidableEq, Repr

/-- An ENCODE request (`s_op = 1`): the typed command its module tag and variant code carry (R66, R71). -/
def decodeEncodeReq (w : SReqWord) : Except RequestReject Instr :=
  if sCmdModule w = 0 then
    match ballastOfPort (sCmdVariant w) with
    | some c => .ok (.encBallast c)
    | none => .error .reservedVariant
  else if sCmdModule w = 1 then
    if sCmdVariant w = 0 then .ok (.encProp (.setThrust { x := sCmdX w, y := sCmdY w }))
    else .error .reservedVariant
  else if sCmdModule w = 2 then
    match lightOfPort (sCmdVariant w) with
    | some c => .ok (.encLight c)
    | none => .error .reservedVariant
  else .error .reservedModule

/-- An S channel request word (R66). -/
def decodeSReq (w : SReqWord) : Except RequestReject Instr :=
  if sOp w = 0 then .ok .template
  else if sOp w = 1 then decodeEncodeReq w
  else if sOp w = 2 then .ok .checksum
  else .error .reservedOperation

/-- A P channel request word (R67). -/
def decodePReq (w : PReqWord) : Except RequestReject Instr :=
  if pOp w = 0 then .ok (.lookup (pModuleId w))
  else if pOp w = 1 then .ok (.validate (pFrame w))
  else if pOp w = 2 then .ok (.decBallast (pPayload w))
  else if pOp w = 3 then .ok (.decProp (pPayload w))
  else if pOp w = 4 then .ok (.decLight (pPayload w))
  else if pOp w = 5 then .ok (.parse (pFrame w))
  else .error .reservedOperation

/-- A row of R56: the pattern and mask over the 128-bit frame word, and the instruction a matching frame spells. -/
structure CommandRow where
  pattern : FrameWord
  mask : FrameWord
  instr : Frame → Instr

/-- R56: "a frame `F` spells the command when `F[i] & mask[i] = match[i]` for all `i`". -/
def rowMatches (w : FrameWord) (r : CommandRow) : Bool := w &&& r.mask == r.pattern

/-- The mask of the six state commands (R56). -/
def stateMask : FrameWord := 0xFF000000000000000000000000FFFFFF

/-- The mask of PROP.SETTHRUST (R56). -/
def vecMask : FrameWord := 0xFF00000000000000000000000000FFFF

/-- The seven command words of R56, with the `match` values of opcode_table.json. -/
def commandRows : List CommandRow :=
  [ { pattern := 0x0F00000000000000000000000000000A, mask := stateMask, instr := fun _ => .ballastIdle },
    { pattern := 0x0F00000000000000000000000001000A, mask := stateMask, instr := fun _ => .ballastIntake },
    { pattern := 0x0F00000000000000000000000002000A, mask := stateMask, instr := fun _ => .ballastDischarge },
    { pattern := 0x0F00000000000000000000000000020A, mask := stateMask, instr := fun _ => .lightOff },
    { pattern := 0x0F00000000000000000000000001020A, mask := stateMask, instr := fun _ => .lightOn },
    { pattern := 0x0F00000000000000000000000002020A, mask := stateMask, instr := fun _ => .lightBlink },
    { pattern := 0x0F00000000000000000000000000010A, mask := vecMask,
      instr := fun F => .propSetThrust (vectorOf (payloadOf F)) } ]

/-- The class of a frame that spells no command, tested in the order of R64. -/
def frameReject (F : Frame) : FrameReject :=
  if markersGood F then (if validId F[1] then .unknownVariant else .unknownModule) else .badMarker

/-- A received frame: the row of R56 it matches, or the class of R64 it falls in. -/
def decodeFrame (w : FrameWord) : Except FrameReject Instr :=
  match commandRows.find? (rowMatches w) with
  | some r => .ok (r.instr (frameOfBus w))
  | none => .error (frameReject (frameOfBus w))

/-- The instruction in whatever the host presents. -/
def decode : Presented → Except DecodeReject Instr
  | .sreq w => (decodeSReq w).mapError .request
  | .preq w => (decodePReq w).mapError .request
  | .frame w => (decodeFrame w).mapError .frame

/-! ## The encoder -/

/-- The bits of an instruction: request words with unread fields zero (R66, R67), command words as canonical frames
(R56). -/
def encode : Instr → Presented
  | .ballastIdle => .frame (frameToBus (encodeCommand (.ballast .idle)))
  | .ballastIntake => .frame (frameToBus (encodeCommand (.ballast .intake)))
  | .ballastDischarge => .frame (frameToBus (encodeCommand (.ballast .discharge)))
  | .lightOff => .frame (frameToBus (encodeCommand (.light .off)))
  | .lightOn => .frame (frameToBus (encodeCommand (.light .on)))
  | .lightBlink => .frame (frameToBus (encodeCommand (.light .blink)))
  | .propSetThrust v => .frame (frameToBus (encodeCommand (.propulsion (.setThrust v))))
  | .lookup id => .preq (pReqWord 0 (id.setWidth 128))
  | .validate F => .preq (pReqWord 1 (frameToBus F))
  | .decBallast P => .preq (pReqWord 2 ((payloadToBus P).setWidth 128))
  | .decProp P => .preq (pReqWord 3 ((payloadToBus P).setWidth 128))
  | .decLight P => .preq (pReqWord 4 ((payloadToBus P).setWidth 128))
  | .parse F => .preq (pReqWord 5 (frameToBus F))
  | .template => .sreq (sReqWord 0 0 0 0 0)
  | .encBallast c => .sreq (sReqWord 1 (modulePort .ballast) (ballastPort c) 0 0)
  | .encProp (.setThrust v) => .sreq (sReqWord 1 (modulePort .propulsion) 0 v.x v.y)
  | .encLight c => .sreq (sReqWord 1 (modulePort .light) (lightPort c) 0 0)
  | .checksum => .sreq (sReqWord 2 0 0 0 0)

/-! ## The table's numbering -/

/-- `w` is an SREQ word as the encoder writes it, unread fields zero. -/
def canonicalSReq (w : SReqWord) : Bool :=
  match decodeSReq w with
  | .ok i => encode i == .sreq w
  | .error _ => false

/-- What the host presents for a word of the opcode table given with `nbits` bits: 128 bits is a frame, 70 to 72 an SREQ word,
129 or more a PREQ word. The two request formats share their low bits, so a word given with any other length names no
channel: it is read as SREQ when it is exactly what the encoder writes for an S request, else as PREQ (assumption 20). -/
def presentedOfTable (nbits w : Nat) : Presented :=
  if nbits = 128 then .frame (BitVec.ofNat 128 w)
  else if 128 < nbits then .preq (BitVec.ofNat 131 w)
  else if 70 ≤ nbits ∧ nbits ≤ 72 then .sreq (BitVec.ofNat 70 w)
  else if w < 2 ^ 70 ∧ canonicalSReq (BitVec.ofNat 70 w) then .sreq (BitVec.ofNat 70 w)
  else .preq (BitVec.ofNat 131 w)

/-- The instruction the decoder reads from a word numbered as the opcode table numbers it. -/
def decodeTableWord (nbits w : Nat) : Option Instr := (decode (presentedOfTable nbits w)).toOption

end Sys2Proof
end

