-- ==== Sys2Proof/Machine/State.lean ====
section
/-! DEFINITION. The state of the block and its ports as plain data, the reasons a step can stop, and the state after reset
(spec 10_state.md R10, R15, R19, R20, R24; 60_exceptions.md R139, R143). -/

namespace Sys2Proof.Machine

/-- Reasons a step is given no meaning. -/
inductive Refusal where
  /-- Raised by no arm now: an instruction whose meaning is not written yet, named by its mnemonic. Safe: nothing can be
  proved of a run that stops so. -/
  | notModelled (mnemonic : String)
  /-- Raised by `runInputs` when the S request word is ill-formed (R71, R139): "no response, no state change, and no claim can
  be made of a run that presents one". Safe. -/
  | illFormedSRequest (why : RequestReject)
  /-- Raised by `runInputs` when the P request word is ill-formed (R71, R139). Safe. -/
  | illFormedPRequest (why : RequestReject)
  deriving DecidableEq, Repr

/-- What the host drives on the P channel's input: a request word (R20, R67), or a received frame, which stands for the request
to PARSE it (assumption 3). -/
inductive PInput where
  | request (w : PReqWord)
  | frame (w : FrameWord)
  deriving DecidableEq, Repr

/-- What the host drives on the input ports in one step (R19, R20). -/
structure Inputs where
  /-- `rst`. -/
  rst : Bool
  /-- `s_req_valid` (is it `some`) and the SREQ word. -/
  sReq : Option SReqWord
  /-- `p_req_valid` (is it `some`) and what is presented. -/
  pReq : Option PInput
  /-- The free bit of D24: whether P's request is served before S's in this step. Nothing constrains it; it is read only when
  both channels have a request, and matters only when S raises Unimplemented (R21; assumption 10). -/
  parserFirst : Bool
  deriving DecidableEq, Repr

/-- The state. Of the block itself it is FAULT alone (R10); the rest is its ports, its build-time parameters, and what the
host will drive (assumption 1). -/
structure State where
  /-- The build-time parameters, changed by no step and not by reset (R17, R24). -/
  params : Config.Params
  /-- FAULT, the one bit of state (R15); also the output `fault` (R19). -/
  fault : Bool
  /-- The output `s_rsp_valid` (is it `some`) with `s_rsp_frame` (R19, R68). Read by no operation (R11). -/
  sRsp : Option Frame
  /-- The output `p_rsp_valid` (is it `some`) with the P channel's response (R20, R69). Read by no operation (R11). -/
  pRsp : Option PResponse
  /-- The cause of the Unimplemented exception an instruction of this step took, which becomes the step's outcome
  `fault Unimplemented(cause)` (R143). It lives within a step only: cleared when a step starts and in every state a step
  leaves, since the cause "is not latched" (assumption 5). -/
  raised : Option Unimplemented
  /-- What the host drives in the steps to come, first the next step's (R12, R171; assumption 1). -/
  inputs : List Inputs
  deriving DecidableEq, Repr

/-- Reasons a step ends in a fault (R143; 93_implementation_defined.md U15). Each carries the state the block is left in, FAULT 1
and no cause latched, from which the host can go on by `rst` alone (R144; assumption 24). The other errors of the block are
responses (R135 to R137). -/
inductive Fault where
  /-- Raised by `outcomeOf` when CHECKSUM, or ENC.LIGHT where it is not implemented, took Unimplemented in this step: the spec's
  outcome `fault Unimplemented(cause)` (R138, R143). Safe: a faulted state is never a next state. -/
  | unimplemented (cause : Unimplemented) (left : State)
  /-- Raised by `outcomeOf` for every step from a state with FAULT 1 that does not assert `rst`: "no agent has a step until reset"
  (U15, R15, R143). Safe. -/
  | stuck (left : State)
  deriving DecidableEq, Repr

/-- The block right after reset (R24, R160): FAULT 0, no response pending; the parameters at the values R6 takes; the host has
presented nothing (assumption 2). -/
def State.reset : State :=
  { params := Config.taken, fault := false, sRsp := none, pRsp := none, raised := none, inputs := [] }

end Sys2Proof.Machine
end

