-- ==== Sys2Proof/Machine/Ops.lean ====
section
/-! DEFINITION. The named operations on the state: presenting a response, being silent, taking the Unimplemented exception,
reset, and the two serving rules every operation goes through (spec 10_state.md R15, R21; 60_exceptions.md R142 to R144;
70_reset_and_hazards.md R160). -/

namespace Sys2Proof.Machine

/-- `respond(FrameOut(F))` on the S channel (R8, R68). -/
def State.respondS (s : State) (F : Frame) : State := { s with sRsp := some F }

/-- `respond(r)` on the P channel (R8, R69). -/
def State.respondP (s : State) (r : PResponse) : State := { s with pRsp := some r }

/-- The S channel gives no response. -/
def State.silenceS (s : State) : State := { s with sRsp := none }

/-- The P channel gives no response. -/
def State.silenceP (s : State) : State := { s with pRsp := none }

/-- TAKING AN EXCEPTION: `raise Unimplemented(cause)`. `FAULT <- 1`, no response on the S channel, nothing else saved (R138,
R143). The cause is handed to the step's outcome, `outcomeOf` (assumptions 4 and 5). The non-fatal errors have no entry: they
are responses (R142). -/
def State.raiseUnimplemented (s : State) (cause : Unimplemented) : State :=
  { s with fault := true, sRsp := none, raised := some cause }

/-- RETURN: there is no return instruction; reset is the only way on (R144). `rst`: `FAULT <- 0`, no response pending, any
request of the step dropped (R160). -/
def State.applyReset (s : State) : State :=
  { s with fault := false, sRsp := none, pRsp := none, raised := none }

/-- The start of a step: this step's inputs are taken from the host's list and no response is presented yet. -/
def State.beginStep (s : State) : State :=
  { s with inputs := s.inputs.tail, sRsp := none, pRsp := none, raised := none }

/-- The cause is not latched: no state a step leaves holds it (R143). -/
def State.dropCause (s : State) : State := { s with raised := none }

/-- The S agent serves a request: only while FAULT is 0; otherwise the request is not accepted and there is no response (R15,
R21, R143), and the step ends in a fault, `outcomeOf` (assumption 6). -/
def serveS (s : State) (act : State → State) : Host.Outcome State Fault Refusal :=
  .next (if s.fault then s.silenceS else act s)

/-- The P agent serves a request: only while FAULT is 0; otherwise the request is not accepted and there is no response (R15,
R21, R143), and the step ends in a fault, `outcomeOf` (assumption 6). -/
def serveP (s : State) (act : State → State) : Host.Outcome State Fault Refusal :=
  .next (if s.fault then s.silenceP else act s)

/-- One agent's move and then the other's within one step. -/
def andThen (o : Host.Outcome State Fault Refusal) (f : State → Host.Outcome State Fault Refusal) :
    Host.Outcome State Fault Refusal :=
  match o with
  | .next s => f s
  | .fault r => .fault r
  | .refused r => .refused r

end Sys2Proof.Machine
end

