-- ==== Sys2Proof/Machine/Validator.lean ====
section
/-! DEFINITION. Operation family 3, the Validator: VALIDATE (spec 42_validator.md R90 to R94). -/

namespace Sys2Proof.Machine

/-- The Validator's checks in order, fail fast: markers (R91), module identifier (R92); check 3 tests nothing (R93). The
first violation with the observed bytes, or none. -/
def structuralCheck (F : Frame) : Option StructuralError :=
  if F[0] ≠ Config.START_MARKER ∨ F[15] ≠ Config.END_MARKER then
    some (.markerMismatch F[0] F[15])
  else if validId F[1] then none
  else some (.unknownModule F[1])

/-- The record of R94 for the outcome of the checks. -/
def diagOf : Option StructuralError → Diag
  | none => .passed
  | some (.markerMismatch a b) => .markers a b
  | some (.unknownModule i) => .moduleId i

/-- The diagnostic of a step, dropped when DIAG_PRESENT is false (R94). -/
def diagFor (s : State) (F : Frame) : Option Diag :=
  if s.params.DIAG_PRESENT then some (diagOf (structuralCheck F)) else none

/-- VALIDATE (R90): true iff all checks pass, with the advisory record. -/
def execValidate (F : Frame) (s : State) : Host.Outcome State Fault Refusal :=
  serveP s fun s => s.respondP (.validated (structuralCheck F).isNone (diagFor s F))

end Sys2Proof.Machine
end

