-- ==== Sys2Proof/Machine/Decoders.lean ====
section
/-! DEFINITION. Operation family 5, the decoders and the frame parser: DEC.BALLAST, DEC.LIGHT, DEC.PROP, PARSE (spec 44_decode.md
R115 to R119). -/

namespace Sys2Proof.Machine

/-- DEC.BALLAST's answer: by payload byte 0 alone (R116). -/
def decodeBallast (P : Payload) : DecodeResult :=
  match ballastOfWire (stateCode P) with
  | some c => .ok (.ballast c)
  | none => .error { module := .ballast, discriminant := stateCode P }

/-- DEC.LIGHT's answer: by payload byte 0 alone (R117). -/
def decodeLight (P : Payload) : DecodeResult :=
  match lightOfWire (stateCode P) with
  | some c => .ok (.light c)
  | none => .error { module := .light, discriminant := stateCode P }

/-- DEC.PROP's answer: every payload decodes (R118). -/
def decodeProp (P : Payload) : DecodeResult := .ok (.propulsion (.setThrust (vectorOf P)))

/-- The decoder the module identifier selects (R53). -/
def decodeFor : Module → Payload → DecodeResult
  | .ballast => decodeBallast
  | .light => decodeLight
  | .propulsion => decodeProp

/-- A payload decoder's answer as PARSE's (R119). -/
def parseOfDecode : DecodeResult → ParseResult
  | .ok c => .ok c
  | .error e => .decodeError e

/-- PARSE's answer: the Validator's checks, then the registry's module's decoder on `F[2..13]` (R119). -/
def parseFrame (F : Frame) : ParseResult :=
  match structuralCheck F with
  | some e => .structuralError e
  | none =>
    match registry F[1] with
    | some m => parseOfDecode (decodeFor m (payloadOf F))
    | none => .structuralError (.unknownModule F[1])

/-- The P agent parses a frame (R119), with the Validator's diagnostic. -/
def serveParse (F : Frame) (s : State) : Host.Outcome State Fault Refusal :=
  serveP s fun s => s.respondP (.parsed (parseFrame F) (diagFor s F))

/-- DEC.BALLAST (R116). -/
def execDecBallast (P : Payload) (s : State) : Host.Outcome State Fault Refusal :=
  serveP s fun s => s.respondP (.decoded (decodeBallast P))

/-- DEC.LIGHT (R117); it does not depend on LIGHT_ENCODE_IMPLEMENTED. -/
def execDecLight (P : Payload) (s : State) : Host.Outcome State Fault Refusal :=
  serveP s fun s => s.respondP (.decoded (decodeLight P))

/-- DEC.PROP (R118). -/
def execDecProp (P : Payload) (s : State) : Host.Outcome State Fault Refusal :=
  serveP s fun s => s.respondP (.decoded (decodeProp P))

/-- PARSE (R119). -/
def execParse (F : Frame) (s : State) : Host.Outcome State Fault Refusal := serveParse F s

end Sys2Proof.Machine
end

