-- ==== Sys2Proof/Machine/Commands.lean ====
section
/-! DEFINITION. The seven command words (spec 30_encoding.md R57 to R63). A command word is a received frame, and what the block
does with a received frame is PARSE; frame bytes outside the word's mask change nothing, so the frame parsed is the word's
canonical frame (assumption 3). -/

namespace Sys2Proof.Machine

/-- BALLAST.IDLE (R57). -/
def execBallastIdle (s : State) : Host.Outcome State Fault Refusal := serveParse (encodeCommand (.ballast .idle)) s

/-- BALLAST.INTAKE (R58). -/
def execBallastIntake (s : State) : Host.Outcome State Fault Refusal := serveParse (encodeCommand (.ballast .intake)) s

/-- BALLAST.DISCHARGE (R59). -/
def execBallastDischarge (s : State) : Host.Outcome State Fault Refusal :=
  serveParse (encodeCommand (.ballast .discharge)) s

/-- LIGHT.OFF (R60). -/
def execLightOff (s : State) : Host.Outcome State Fault Refusal := serveParse (encodeCommand (.light .off)) s

/-- LIGHT.ON (R61). -/
def execLightOn (s : State) : Host.Outcome State Fault Refusal := serveParse (encodeCommand (.light .on)) s

/-- LIGHT.BLINK (R62). -/
def execLightBlink (s : State) : Host.Outcome State Fault Refusal := serveParse (encodeCommand (.light .blink)) s

/-- PROP.SETTHRUST (R63). -/
def execPropSetThrust (v : DirectionVector) (s : State) : Host.Outcome State Fault Refusal :=
  serveParse (encodeCommand (.propulsion (.setThrust v))) s

end Sys2Proof.Machine
end

