-- ==== Sys2Proof/Machine/Encoders.lean ====
section
/-! DEFINITION. Operation family 4, the encoders: ENC.BALLAST, ENC.LIGHT, ENC.PROP and CHECKSUM (spec 43_encode.md R100 to
R104). -/

namespace Sys2Proof.Machine

/-- ENC.BALLAST (R101). -/
def execEncBallast (c : BallastCommand) (s : State) : Host.Outcome State Fault Refusal :=
  serveS s fun s => s.respondS (encodeCommand (.ballast c))

/-- ENC.LIGHT (R102): the documented map, or Unimplemented(LightEncode) when the parameter is false. -/
def execEncLight (c : LightCommand) (s : State) : Host.Outcome State Fault Refusal :=
  serveS s fun s =>
    if s.params.LIGHT_ENCODE_IMPLEMENTED then s.respondS (encodeCommand (.light c))
    else s.raiseUnimplemented .lightEncode

/-- ENC.PROP (R103): every operand pair encodes. -/
def execEncProp (c : PropulsionCommand) (s : State) : Host.Outcome State Fault Refusal :=
  serveS s fun s => s.respondS (encodeCommand (.propulsion c))

/-- CHECKSUM (R104): `raise Unimplemented(Checksum)`, always. -/
def execChecksum (s : State) : Host.Outcome State Fault Refusal :=
  serveS s fun s => s.raiseUnimplemented .checksum

end Sys2Proof.Machine
end

