-- ==== Sys2Proof/Machine/Framer.lean ====
section
/-! DEFINITION. Operation family 2, the Command Buffer Framer: TEMPLATE (spec 41_framer.md R85). -/

namespace Sys2Proof.Machine

/-- TEMPLATE: `respond(FrameOut(T))` (R85). -/
def execTemplate (s : State) : Host.Outcome State Fault Refusal :=
  serveS s fun s => s.respondS templateFrame

end Sys2Proof.Machine
end

