-- ==== Sys2Proof/Machine/Registry.lean ====
section
/-! DEFINITION. Operation family 1, the Module Registry: LOOKUP (spec 40_registry.md R80). -/

namespace Sys2Proof.Machine

/-- LOOKUP: `respond(REGISTRY(id))` (R80). -/
def execLookup (id : Byte) (s : State) : Host.Outcome State Fault Refusal :=
  serveP s fun s => s.respondP (.looked (registry id))

end Sys2Proof.Machine
end

