-- ==== Sys2Proof/Machine/Dispatch.lean ====
section
/-! DEFINITION. One arm per constructor of Instr, each one call of that instruction's meaning. -/

namespace Sys2Proof.Machine

def exec (i : Instr) (s : State) : Host.Outcome State Fault Refusal :=
  match i with
  -- command words, R57 to R63
  | .ballastIdle => Sys2Proof.Machine.execBallastIdle s
  | .ballastIntake => Sys2Proof.Machine.execBallastIntake s
  | .ballastDischarge => Sys2Proof.Machine.execBallastDischarge s
  | .lightOff => Sys2Proof.Machine.execLightOff s
  | .lightOn => Sys2Proof.Machine.execLightOn s
  | .lightBlink => Sys2Proof.Machine.execLightBlink s
  | .propSetThrust v => Sys2Proof.Machine.execPropSetThrust v s
  -- operations, R70
  | .lookup id => Sys2Proof.Machine.execLookup id s
  | .template => Sys2Proof.Machine.execTemplate s
  | .validate f => Sys2Proof.Machine.execValidate f s
  | .encBallast c => Sys2Proof.Machine.execEncBallast c s
  | .encLight c => Sys2Proof.Machine.execEncLight c s
  | .encProp c => Sys2Proof.Machine.execEncProp c s
  | .checksum => Sys2Proof.Machine.execChecksum s
  | .decBallast p => Sys2Proof.Machine.execDecBallast p s
  | .decProp p => Sys2Proof.Machine.execDecProp p s
  | .decLight p => Sys2Proof.Machine.execDecLight p s
  | .parse f => Sys2Proof.Machine.execParse f s

end Sys2Proof.Machine
end

