-- ==== Sys2Proof/Machine/Cycle.lean ====
section
/-! DEFINITION. One step of the block: the two agents serve what the host presents in it (spec 10_state.md R21; 60_exceptions.md
R139, R141; 70_reset_and_hazards.md R160). -/

namespace Sys2Proof.Machine

/-- The S request of a step, if there is one. -/
def fetchS : Option SReqWord → Except RequestReject (Option Instr)
  | none => .ok none
  | some w => (decodeSReq w).map some

/-- The P request of a step, if there is one. A received frame that spells no command is still parsed, and answered with an
error (R64). -/
def fetchP : Option PInput → Except RequestReject (Option Instr)
  | none => .ok none
  | some (.request w) => (decodePReq w).map some
  | some (.frame w) =>
    match decodeFrame w with
    | .ok i => .ok (some i)
    | .error _ => .ok (some (.parse (frameOfBus w)))

/-- An agent with no request does nothing. -/
def execOption (i : Option Instr) (s : State) : Host.Outcome State Fault Refusal :=
  match i with
  | none => .next s
  | some i => exec i s

/-- Both agents in one step, in either order: "a step of S and a step of P commute whenever neither raises Unimplemented", and
both orders are admitted when S does (R21, D24). -/
def runBoth (parserFirst : Bool) (si pi : Option Instr) (s : State) : Host.Outcome State Fault Refusal :=
  if parserFirst then andThen (execOption pi s) (execOption si) else andThen (execOption si s) (execOption pi)

/-- A step under given inputs. Reset drops the step's requests (R160); an ill-formed request is refused before anything is
served (R139, R141; assumption 7). -/
def runInputs (inp : Inputs) (s : State) : Host.Outcome State Fault Refusal :=
  if inp.rst then .next s.applyReset
  else
    match fetchS inp.sReq, fetchP inp.pReq with
    | .error why, _ => .refused (.illFormedSRequest why)
    | .ok _, .error why => .refused (.illFormedPRequest why)
    | .ok si, .ok pi => runBoth inp.parserFirst si pi s

/-- What a step leaves the block doing: the next inputs of the host's list, or none (the block waits for a request, R160). -/
def cycle (s : State) : Host.Outcome State Fault Refusal :=
  match s.inputs with
  | [] => .next s.beginStep
  | inp :: _ => runInputs inp s.beginStep

/-- THE OUTCOME OF A STEP, once the agents have moved (R143, U15). "A faulted state is never a final state": where FAULT is 1 the
outcome is a fault, `Unimplemented(cause)` when an instruction of this step raised it, else the block was faulted already
and is stuck. -/
def outcomeOf : Host.Outcome State Fault Refusal → Host.Outcome State Fault Refusal
  | .next t =>
    if t.fault then
      match t.raised with
      | some cause => .fault (.unimplemented cause t.dropCause)
      | none => .fault (.stuck t)
    else .next t
  | .fault r => .fault r
  | .refused r => .refused r

/-- The state a fault leaves the block in (R143, R144). -/
def leftBy : Fault → State
  | .unimplemented _ t => t
  | .stuck t => t

/-- The inputs of a step in which the host presents one thing. -/
def inputsOf : Presented → Inputs
  | .sreq w => { rst := false, sReq := some w, pReq := none, parserFirst := false }
  | .preq w => { rst := false, sReq := none, pReq := some (.request w), parserFirst := false }
  | .frame w => { rst := false, sReq := none, pReq := some (.frame w), parserFirst := false }

/-- The state in which the host presents one thing in the next step. -/
def State.present (s : State) (p : Presented) : State := { s with inputs := inputsOf p :: s.inputs }

end Sys2Proof.Machine
end

