-- ==== Sys2Proof/Machine/Step.lean ====
section
/-! DEFINITION. The machine's step (spec 10_state.md R21), and how a word of the opcode table is placed where it takes its next
request. -/

namespace Sys2Proof.Machine

/-- One step of the block. -/
def step (s : State) : Host.Outcome State Fault Refusal := outcomeOf (cycle s)

/-- The word placed as what the host presents in the next step; everything else as in `s` (assumption 2). -/
def State.withFetchWord (s : State) (nbits w : Nat) : State := s.present (presentedOfTable nbits w)

end Sys2Proof.Machine
end

