-- ==== Sys2Proof/Machine/Flags.lean ====
section
/-! DEFINITION. The block has no flags (spec 10_state.md R16); what a response carries in their place is the port fields of R19
and R20. This file computes those bits from the abstract response (R69, R94, R135). A field the spec leaves without a value for
the response is `none` (R20, D22; assumption 13). -/

namespace Sys2Proof.Machine

/-- The P channel's response fields (R20); the valid bit is `State.pRspValid`. -/
structure PPorts where
  /-- `p_rsp_ok`. -/
  ok : Bool
  /-- `p_rsp_err`: 0 none, 1 StructuralError, 2 DecodeError. -/
  err : BitVec 2
  /-- `p_rsp_module`. -/
  module : Option (BitVec 2)
  /-- `p_rsp_variant`. -/
  variant : Option (BitVec 2)
  /-- `p_rsp_x`. -/
  x : Option W32
  /-- `p_rsp_y`. -/
  y : Option W32
  /-- `p_diag_check`. -/
  diagCheck : Option (BitVec 2)
  /-- `p_diag_obs_start`. -/
  obsStart : Option Byte
  /-- `p_diag_obs_end`. -/
  obsEnd : Option Byte
  /-- `p_diag_obs_id`. -/
  obsId : Option Byte
  deriving DecidableEq, Repr

/-- No field but `p_rsp_ok` and `p_rsp_err` has a value. -/
def barePorts (ok : Bool) (err : BitVec 2) : PPorts :=
  { ok := ok, err := err, module := none, variant := none, x := none, y := none, diagCheck := none, obsStart := none,
    obsEnd := none, obsId := none }

/-- The variant code of a command (R54 last column). -/
def variantPort : Command → BitVec 2
  | .ballast c => ballastPort c
  | .light c => lightPort c
  | .propulsion _ => 0

/-- The x component where the command has one (R20). -/
def xPort : Command → Option W32
  | .propulsion (.setThrust v) => some v.x
  | .ballast _ => none
  | .light _ => none

/-- The y component where the command has one (R20). -/
def yPort : Command → Option W32
  | .propulsion (.setThrust v) => some v.y
  | .ballast _ => none
  | .light _ => none

/-- The fields that carry `Ok(c)` (R20, R69). -/
def commandPorts (c : Command) : PPorts :=
  { barePorts true 0 with
    module := some (modulePort c.module), variant := some (variantPort c), x := xPort c, y := yPort c }

/-- `p_diag_check` and the observed bytes that are meaningful with it (R94). -/
def withDiag (p : PPorts) : Option Diag → PPorts
  | none => p
  | some .passed => { p with diagCheck := some 0 }
  | some (.markers a b) => { p with diagCheck := some 1, obsStart := some a, obsEnd := some b }
  | some (.moduleId i) => { p with diagCheck := some 2, obsId := some i }

/-- What a failed check reports as expected: "The expected values and the list of valid identifiers are constants and have no
port" (R90, R94). -/
def diagExpected : Diag → List Byte
  | .passed => []
  | .markers _ _ => [Config.START_MARKER, Config.END_MARKER]
  | .moduleId _ => [Config.ID_BALLAST, Config.ID_PROPULSION, Config.ID_LIGHT]

/-- The port fields of each response (R20, R69, R80, R135). -/
def portsOf : PResponse → PPorts
  | .looked (some m) => { barePorts true 0 with module := some (modulePort m) }
  | .looked none => barePorts false 0
  | .validated valid diag => withDiag (barePorts valid 0) diag
  | .decoded (.ok c) => commandPorts c
  | .decoded (.error _) => barePorts false 2
  | .parsed (.ok c) diag => withDiag (commandPorts c) diag
  | .parsed (.structuralError _) diag => withDiag (barePorts false 1) diag
  | .parsed (.decodeError _) diag => withDiag (barePorts false 2) diag

/-- `p_rsp_valid` (R20). -/
def State.pRspValid (s : State) : Bool := s.pRsp.isSome

/-- The P channel's fields while `p_rsp_valid` is 1 (R20, R24). -/
def State.pPorts (s : State) : Option PPorts := s.pRsp.map portsOf

/-- `s_rsp_valid` (R19). -/
def State.sRspValid (s : State) : Bool := s.sRsp.isSome

/-- `s_rsp_frame` while `s_rsp_valid` is 1 (R19, R24). -/
def State.sRspFrame (s : State) : Option FrameWord := s.sRsp.map frameToBus

end Sys2Proof.Machine
end

