-- ==== Sys2Proof/Safety.lean ====
section
/-! DEFINITION. What claims are stated in: the host's duties (spec 70_reset_and_hazards.md R172), a good step (R171), the
responses and faults the block can show (an invariant of every step), and a decode matched to its frame (R163). -/

namespace Sys2Proof.Safety

open Sys2Proof.Machine

/-- R102, R104: the cause the instruction raises Unimplemented for under the given parameters, if it does. -/
def raises (p : Config.Params) : Instr → Option Unimplemented
  | .checksum => some .checksum
  | .encLight _ => if p.LIGHT_ENCODE_IMPLEMENTED then none else some .lightEncode
  | .template => none
  | .encBallast _ => none
  | .encProp _ => none
  | .lookup _ => none
  | .validate _ => none
  | .decBallast _ => none
  | .decProp _ => none
  | .decLight _ => none
  | .parse _ => none
  | .ballastIdle => none
  | .ballastIntake => none
  | .ballastDischarge => none
  | .lightOff => none
  | .lightOn => none
  | .lightBlink => none
  | .propSetThrust _ => none

/-- R169: the operations that stop the block under the given parameters. -/
def fatalOperation (p : Config.Params) (i : Instr) : Bool := (raises p i).isSome

/-- R162, R169, R172: a step of a host that keeps its duties presents no ill-formed request and no fatal operation, and does
not assert `rst` over a request it wants answered. -/
def dutiful (p : Config.Params) (inp : Inputs) : Bool :=
  if inp.rst then inp.sReq.isNone && inp.pReq.isNone
  else
    match fetchS inp.sReq, fetchP inp.pReq with
    | .ok si, .ok _ => !(si.any (fatalOperation p))
    | _, _ => false

/-- R171: every request of the step got its response. -/
def answered (inp : Inputs) (s' : State) : Bool :=
  (inp.sReq.isNone || s'.sRsp.isSome) && (inp.pReq.isNone || s'.pRsp.isSome)

/-- R171 for `n` steps: no refusal, every request answered, FAULT 0 at the end. -/
def goodRun : Nat → State → Bool
  | 0, s => !s.fault
  | n + 1, s =>
    match step s with
    | .next s' => (match s.inputs with | [] => true | inp :: _ => answered inp s') && goodRun n s'
    | _ => false

/-- R105: the shape of every frame the serializer presents (the template among them). -/
def frameShape (F : Frame) : Bool :=
  F[0] == 0x0A && F[15] == 0x0F && F[14] == 0 && (F[1] == 0 || F[1] == 1 || F[1] == 2)

/-- The structural errors the parser can report: a marker that differs, an identifier outside {0, 1, 2} (R135). -/
def structuralErrorLegal : StructuralError → Bool
  | .markerMismatch a b => a != 0x0A || b != 0x0F
  | .unknownModule i => i != 0 && i != 1 && i != 2

/-- The decode errors the parser can report: never from Propulsion, and a discriminant outside {0, 1, 2} (R135, R137). -/
def decodeErrorLegal (e : DecodeError) : Bool :=
  e.module != .propulsion && e.discriminant != 0 && e.discriminant != 1 && e.discriminant != 2

/-- The diagnostic agrees with the answer (R94, R119): `check = 0` when the checks passed, else the same cause and bytes. -/
def diagAgrees (check : Option StructuralError) : Option Diag → Bool
  | none => true
  | some d => d == diagOf check

/-- The responses the parser can present. -/
def pResponseLegal : PResponse → Bool
  | .looked _ => true
  | .validated true diag => diagAgrees none diag
  | .validated false diag => diag != some .passed
  | .decoded (.ok _) => true
  | .decoded (.error e) => decodeErrorLegal e
  | .parsed (.ok _) diag => diagAgrees none diag
  | .parsed (.structuralError e) diag => structuralErrorLegal e && diagAgrees (some e) diag
  | .parsed (.decodeError e) diag => decodeErrorLegal e && diagAgrees none diag

/-- What the block's outputs can be after a step: a legal response on each channel, none on S while FAULT is 1 (R15, R143), and no
cause latched (R143). -/
def outputsLegal (s : State) : Bool :=
  s.sRsp.all frameShape && s.pRsp.all pResponseLegal && (!s.fault || s.sRsp.isNone) && s.raised.isNone

/-- What a fault can be: the block is left with FAULT 1 and legal outputs; Unimplemented(LightEncode) only where the Light encoder
is not implemented (R102), with a P response if P was served first (D24); a stuck block answers nothing (R143). -/
def faultLegal : Fault → Bool
  | .unimplemented cause t =>
    t.fault && outputsLegal t && (cause != .lightEncode || !t.params.LIGHT_ENCODE_IMPLEMENTED)
  | .stuck t => t.fault && outputsLegal t && t.pRsp.isNone

/-- What is presented on the P channel asks for instruction `j`: a request word or a frame that decodes to it, or a frame that
spells no command, which asks for PARSE of itself (R64; assumption 3). -/
def asksP (p : PInput) (j : Instr) : Prop :=
  match p with
  | .request w => decode (.preq w) = .ok j
  | .frame w => decode (.frame w) = .ok j ∨ (∃ why, decode (.frame w) = .error why) ∧ j = .parse (frameOfBus w)

/-- `ENCODE(c)` as the operation of the command's module (R70, R100). -/
def encodeInstr : Command → Instr
  | .ballast c => .encBallast c
  | .light c => .encLight c
  | .propulsion c => .encProp c

/-- `DEC.m(P)`, the payload decoder of a module (R53, R70). -/
def decodeInstr : Module → Payload → Instr
  | .ballast => .decBallast
  | .light => .decLight
  | .propulsion => .decProp

/-- The diagnostic a step presents, or one of its fields: dropped when DIAG_PRESENT is false (R94). -/
def shown {α : Type} (p : Config.Params) (d : α) : Option α := if p.DIAG_PRESENT then some d else none

/-- R163 (a) to (c): the frame validated, the decoder's module is the frame's, and the payload is exactly `F[2..13]`. -/
def matchedDecode (F : Frame) (m : Module) (P : Payload) : Prop :=
  structuralCheck F = none ∧ registry F[1] = some m ∧ P = payloadOf F

end Sys2Proof.Safety
end

