-- ==== Sys2Proof/Certificates/Slice0/Obligations.lean ====
section
/-! DEFINITION. The statements for the provers. Each docstring cites the rule or section of spec/ it formalises; where a
statement rests on a choice of this model or on a decision D<n> or inference of the spec, it says so. The hypothesis
`s.fault = false` is 10_state.md section 3: "A model keeps "no fault recorded" as a premise of every claim". -/

open Sys2Proof Sys2Proof.Machine Sys2Proof.Safety

/-! ## Encoding -/

/-- Words written out in 30_encoding.md section 3 and as request words in 95_test_vectors.md part 3 decode to the instructions
they stand for, at least one of each family; words outside the encoding are rejected by name. -/
def Obligations.WrittenOutWordsDecode : Prop :=
  decode (.frame 0x0F00000000000000000000000001000A) = .ok .ballastIntake ∧
  decode (.frame 0x0F00000000000000000000000001020A) = .ok .lightOn ∧
  decode (.frame 0x0F0000000000C00000003F800000010A) =
    .ok (.propSetThrust { x := 0x3F800000, y := 0xC0000000 }) ∧
  decode (.frame 0x0F00000000000000000000000003020A) = .error (.frame .unknownVariant) ∧
  decode (.frame 0x0F00000000000000000000000000050A) = .error (.frame .unknownModule) ∧
  decode (.frame 0x0E00000000000000000000000001000A) = .error (.frame .badMarker) ∧
  decode (.sreq 0x000000000000000000) = .ok .template ∧
  decode (.sreq 0x000000000000000011) = .ok (.encBallast .intake) ∧
  decode (.sreq 0x000000000000000019) = .ok (.encLight .off) ∧
  decode (.sreq 0x300000000FE0000005) = .ok (.encProp (.setThrust { x := 0x3F800000, y := 0xC0000000 })) ∧
  decode (.sreq 0x000000000000000002) = .ok .checksum ∧
  decode (.sreq 0x000000000000000003) = .error (.request .reservedOperation) ∧
  decode (.preq 0x000000000000000000000000000000008) = .ok (.lookup 0x01) ∧
  decode (.preq 0x078000000000000000000000000080051) =
    .ok (.validate #v[0x0A, 0x00, 0x01, 0, 0, 0, 0, 0, 0, 0, 0, 0, 0, 0, 0, 0x0F]) ∧
  decode (.preq 0x00000000000000000000000000000000A) =
    .ok (.decBallast #v[0x01, 0, 0, 0, 0, 0, 0, 0, 0, 0, 0, 0]) ∧
  decode (.preq 0x000000000000000600000001FC000003) =
    .ok (.decProp #v[0x00, 0x00, 0x80, 0x3F, 0x00, 0x00, 0x00, 0xC0, 0, 0, 0, 0]) ∧
  decode (.preq 0x00000000000000000000000000000000C) =
    .ok (.decLight #v[0x01, 0, 0, 0, 0, 0, 0, 0, 0, 0, 0, 0]) ∧
  decode (.preq 0x078000000000000000000000000081055) =
    .ok (.parse #v[0x0A, 0x02, 0x01, 0, 0, 0, 0, 0, 0, 0, 0, 0, 0, 0, 0, 0x0F])

/-- Decode and encode agree: every instruction, with every operand, is read back from its own encoding (30_encoding.md
sections 3 and 5; request codes are the spec's decisions D4, D5). -/
def Obligations.DecodeOfEncodeIsIdentity : Prop := ∀ i : Instr, decode (encode i) = .ok i

/-- 30_encoding.md section 3, marked derived there: "The seven patterns are disjoint". -/
def Obligations.CommandPatternsDisjoint : Prop :=
  ∀ (w : FrameWord) (r r' : CommandRow),
    r ∈ commandRows → r' ∈ commandRows → rowMatches w r = true → rowMatches w r' = true → r = r'

/-- 30_encoding.md sections 1, 3 and 4: every 128-bit frame word falls in one class by its marker bytes, module byte and state
byte, and a Propulsion frame's operands are bus bits 47:16 and 79:48, whatever the other bits hold. -/
def Obligations.EveryFrameInExactlyOneClass : Prop :=
  ∀ w : FrameWord,
    decodeFrame w =
      if w.extractLsb' 0 8 ≠ 0x0A ∨ w.extractLsb' 120 8 ≠ 0x0F then .error .badMarker
      else if w.extractLsb' 8 8 = 0x01 then
        .ok (.propSetThrust { x := w.extractLsb' 16 32, y := w.extractLsb' 48 32 })
      else if w.extractLsb' 8 8 = 0x00 then
        if w.extractLsb' 16 8 = 0x00 then .ok .ballastIdle
        else if w.extractLsb' 16 8 = 0x01 then .ok .ballastIntake
        else if w.extractLsb' 16 8 = 0x02 then .ok .ballastDischarge
        else .error .unknownVariant
      else if w.extractLsb' 8 8 = 0x02 then
        if w.extractLsb' 16 8 = 0x00 then .ok .lightOff
        else if w.extractLsb' 16 8 = 0x01 then .ok .lightOn
        else if w.extractLsb' 16 8 = 0x02 then .ok .lightBlink
        else .error .unknownVariant
      else .error .unknownModule

/-- 30_encoding.md section 5 (decision D6): exactly the well-formed request words carry an instruction. The S word's condition
is spelled on its bits 1:0, 3:2, 5:4; the P word's on its bits 2:0. -/
def Obligations.WellFormedRequestsDecodeOthersAreRejected : Prop :=
  (∀ w : SReqWord, (∃ i, decodeSReq w = .ok i) ↔
    (w.extractLsb' 0 2 = 0 ∨ w.extractLsb' 0 2 = 2 ∨
      (w.extractLsb' 0 2 = 1 ∧
        ((w.extractLsb' 2 2 = 0 ∨ w.extractLsb' 2 2 = 2) ∧ w.extractLsb' 4 2 ≠ 3 ∨
          w.extractLsb' 2 2 = 1 ∧ w.extractLsb' 4 2 = 0)))) ∧
  (∀ w : PReqWord, (∃ i, decodePReq w = .ok i) ↔ (w.extractLsb' 0 3).toNat ≤ 5) ∧
  (∀ w : SReqWord, sReqWellFormed w = true ↔ ∃ i, decodeSReq w = .ok i) ∧
  (∀ w : PReqWord, pReqWellFormed w = true ↔ ∃ i, decodePReq w = .ok i)

/-- 30_encoding.md section 5: "A field that is not read may hold anything and changes nothing". On S only bits 1:0 are read
unless they are 1, and only bits 5:0 unless the module is 1; on P only bits 10:0 for LOOKUP and bits 98:0 for DEC.*. -/
def Obligations.UnreadRequestFieldsChangeNothing : Prop :=
  (∀ w w' : SReqWord, w.extractLsb' 0 2 = w'.extractLsb' 0 2 → w.extractLsb' 0 2 ≠ 1 → decodeSReq w = decodeSReq w') ∧
  (∀ w w' : SReqWord, w.extractLsb' 0 6 = w'.extractLsb' 0 6 → w.extractLsb' 0 2 = 1 → w.extractLsb' 2 2 ≠ 1 →
    decodeSReq w = decodeSReq w') ∧
  (∀ w w' : PReqWord, w.extractLsb' 0 11 = w'.extractLsb' 0 11 → w.extractLsb' 0 3 = 0 → decodePReq w = decodePReq w') ∧
  (∀ w w' : PReqWord, w.extractLsb' 0 99 = w'.extractLsb' 0 99 →
    w.extractLsb' 0 3 = 2 ∨ w.extractLsb' 0 3 = 3 ∨ w.extractLsb' 0 3 = 4 → decodePReq w = decodePReq w')

/-- 00_scope.md section 5 (decision D2): the bus map `F[i] = frame[8i+7:8i]` for frames and payloads, both ways. -/
def Obligations.BusMapsAreInverse : Prop :=
  (∀ F : Frame, frameOfBus (frameToBus F) = F) ∧ (∀ w : FrameWord, frameToBus (frameOfBus w) = w) ∧
  (∀ P : Payload, payloadOfBus (payloadToBus P) = P) ∧ (∀ w : BitVec 96, payloadToBus (payloadOfBus w) = w) ∧
  (∀ (w : FrameWord) (i : Nat) (hi : i < 16), (frameOfBus w)[i] = w.extractLsb' (8 * i) 8)

/-- R34: the bytes of a component with pattern `w` at payload offset `off` (0 for x, 4 for y) are `w[7:0]`, `w[15:8]`,
`w[23:16]`, `w[31:24]` in the frame ENC.PROP writes, and DEC.PROP reads the pattern back in the same order, as the number
`b0 + 256*b1 + 65536*b2 + 16777216*b3`. -/
def Obligations.ComponentsAreLittleEndianBothWays : Prop :=
  (∀ (v : DirectionVector) (s : State), s.fault = false →
    ∃ F : Frame, exec (.encProp (.setThrust v)) s = .next { s with sRsp := some F } ∧
      F[2] = v.x.extractLsb' 0 8 ∧ F[3] = v.x.extractLsb' 8 8 ∧ F[4] = v.x.extractLsb' 16 8 ∧ F[5] = v.x.extractLsb' 24 8 ∧
      F[6] = v.y.extractLsb' 0 8 ∧ F[7] = v.y.extractLsb' 8 8 ∧ F[8] = v.y.extractLsb' 16 8 ∧ F[9] = v.y.extractLsb' 24 8) ∧
  (∀ (P : Payload) (s : State), s.fault = false →
    ∃ v : DirectionVector,
      exec (.decProp P) s = .next { s with pRsp := some (.decoded (.ok (.propulsion (.setThrust v)))) } ∧
      v.x.toNat = P[0].toNat + 256 * P[1].toNat + 65536 * P[2].toNat + 16777216 * P[3].toNat ∧
      v.y.toNat = P[4].toNat + 256 * P[5].toNat + 65536 * P[6].toNat + 16777216 * P[7].toNat)

/-! ## The Module Registry -/

/-- R80: a P word with `p_op = 0` is LOOKUP of `p_data[7:0]`; it answers `Some` of Ballast, Propulsion, Light for 0, 1, 2 and
`None` for every other byte, and changes nothing else; the port shows `p_rsp_ok = 1` and `p_rsp_module` 0, 1, 2 for the three
modules, and `p_rsp_ok = 0`, `p_rsp_err = 0` for `None`. -/
def Obligations.LookupAnswersTheRegistry : Prop :=
  (∀ w : PReqWord, w.extractLsb' 0 3 = 0 → decodePReq w = .ok (.lookup (w.extractLsb' 3 8))) ∧
  (∀ (id : Byte) (s : State), s.fault = false →
    exec (.lookup id) s = .next { s with pRsp := some (.looked (
      if id = 0x00 then some .ballast else if id = 0x01 then some .propulsion else if id = 0x02 then some .light
      else none)) }) ∧
  (portsOf (.looked (some .ballast))).ok = true ∧ (portsOf (.looked (some .ballast))).module = some 0 ∧
  (portsOf (.looked (some .propulsion))).ok = true ∧ (portsOf (.looked (some .propulsion))).module = some 1 ∧
  (portsOf (.looked (some .light))).ok = true ∧ (portsOf (.looked (some .light))).module = some 2 ∧
  (portsOf (.looked none)).ok = false ∧ (portsOf (.looked none)).err = 0

/-- R81: LOOKUP is total and reads no state; exactly the three bytes 0, 1, 2 answer `Some`; the answers are distinct; the
reverse map is Ballast 0x00, Propulsion 0x01, Light 0x02, and it is what the encoders write at byte 1. -/
def Obligations.RegistryIsInjectiveOnThreeKeys : Prop :=
  (∀ (id : Byte) (s : State), s.fault = false → exec (.lookup id) s = .next { s with pRsp := some (.looked (registry id)) }) ∧
  (∀ id : Byte, (∃ m, registry id = some m) ↔ id.toNat < 3) ∧
  (∀ (a b : Byte) (m : Module), registry a = some m → registry b = some m → a = b) ∧
  (∀ (id : Byte) (m : Module), registry id = some m ↔ id = moduleId m) ∧
  moduleId .ballast = 0x00 ∧ moduleId .propulsion = 0x01 ∧ moduleId .light = 0x02 ∧
  (∀ c : Command, (encodeCommand c)[1] = moduleId c.module)

/-! ## The Command Buffer Framer -/

/-- R85: an S word with `s_op = 0` is TEMPLATE, whatever its other fields hold; it answers the constant frame `T` every time,
`0x0F00_..._000A` on the bus, and changes nothing else. -/
def Obligations.TemplateAnswersTheConstantFrame : Prop :=
  (∀ w : SReqWord, w.extractLsb' 0 2 = 0 → decodeSReq w = .ok .template) ∧
  (∀ s : State, s.fault = false →
    exec .template s =
      .next { s with sRsp := some #v[0x0A, 0, 0, 0, 0, 0, 0, 0, 0, 0, 0, 0, 0, 0, 0, 0x0F] }) ∧
  frameToBus #v[0x0A, 0, 0, 0, 0, 0, 0, 0, 0, 0, 0, 0, 0, 0, 0, 0x0F] = 0x0F00000000000000000000000000000A

/-- 41_framer.md and 70_reset_and_hazards.md section 3, marked derived there: the template is the Ballast Idle frame; a frame
TEMPLATE or ENC.BALLAST Idle answers is accepted by VALIDATE and read by PARSE as `Ballast(Idle)`. -/
def Obligations.TemplateIsTheBallastIdleFrame : Prop :=
  ∀ s : State, s.fault = false →
    ∃ T : Frame, exec .template s = .next { s with sRsp := some T } ∧
      exec (.encBallast .idle) s = .next { s with sRsp := some T } ∧
      exec (.validate T) s = .next { s with pRsp := some (.validated true (shown s.params .passed)) } ∧
      exec (.parse T) s =
        .next { s with pRsp := some (.parsed (.ok (.ballast .idle)) (shown s.params .passed)) }

/-! ## The Validator -/

/-- R90, R91, R92: a P word with `p_op = 1` is VALIDATE of the frame in `p_data`; false with `check = 1` and both observed bytes
when either marker is wrong, else false with `check = 2` and the observed identifier when it is not 0, 1 or 2, else true;
the expected values of a failed check are constants; nothing else changes. The diagnostic is shown where the parameter
DIAG_PRESENT keeps it. -/
def Obligations.ValidateChecksMarkersThenModule : Prop :=
  (∀ w : PReqWord, w.extractLsb' 0 3 = 1 →
    ∃ F : Frame, decodePReq w = .ok (.validate F) ∧
      ∀ (i : Nat) (hi : i < 16), F[i] = w.extractLsb' (3 + 8 * i) 8) ∧
  (∀ (F : Frame) (s : State), s.fault = false →
    exec (.validate F) s = .next { s with pRsp := some (
      if F[0] ≠ 0x0A ∨ F[15] ≠ 0x0F then .validated false (shown s.params (.markers F[0] F[15]))
      else if F[1] ≠ 0x00 ∧ F[1] ≠ 0x01 ∧ F[1] ≠ 0x02 then .validated false (shown s.params (.moduleId F[1]))
      else .validated true (shown s.params .passed)) }) ∧
  (∀ a b i : Byte, diagExpected (.markers a b) = [0x0A, 0x0F] ∧ diagExpected (.moduleId i) = [0x00, 0x01, 0x02])

/-- R93: VALIDATE does not read `F[14]` nor any of `F[2..13]`. -/
def Obligations.ValidateIgnoresPayloadAndChecksum : Prop :=
  ∀ (F G : Frame) (s : State), F[0] = G[0] → F[1] = G[1] → F[15] = G[15] → exec (.validate F) s = exec (.validate G) s

/-- 42_validator.md, the diagnostic (decision D15): dropping the diagnostic leaves the Boolean unaffected, and what the port shows
of it is `check` 0, 1 or 2 with the observed bytes meaningful for it. That `p_rsp_err` is 0 on VALIDATE is this model's reading
(assumption 23). -/
def Obligations.DiagnosticIsAdvisory : Prop :=
  (∀ (F : Frame) (s t t' : State) (p : Config.Params), exec (.validate F) s = .next t →
    exec (.validate F) { s with params := p } = .next t' →
      (t.pPorts.map PPorts.ok) = (t'.pPorts.map PPorts.ok)) ∧
  (∀ (valid : Bool) (a b i : Byte),
    portsOf (.validated valid none) = barePorts valid 0 ∧
    portsOf (.validated valid (some .passed)) = { barePorts valid 0 with diagCheck := some 0 } ∧
    portsOf (.validated valid (some (.markers a b))) =
      { barePorts valid 0 with diagCheck := some 1, obsStart := some a, obsEnd := some b } ∧
    portsOf (.validated valid (some (.moduleId i))) = { barePorts valid 0 with diagCheck := some 2, obsId := some i })

/-! ## The encoders -/

/-- R101: an S word with `s_op = 1`, module 0 is ENC.BALLAST of the variant 0 Idle, 1 Intake, 2 Discharge and is refused for
variant 3; the three frames, byte for byte; nothing else changes. -/
def Obligations.EncBallastFrames : Prop :=
  (∀ w : SReqWord, w.extractLsb' 0 2 = 1 → w.extractLsb' 2 2 = 0 →
    decodeSReq w =
      if w.extractLsb' 4 2 = 0 then .ok (.encBallast .idle)
      else if w.extractLsb' 4 2 = 1 then .ok (.encBallast .intake)
      else if w.extractLsb' 4 2 = 2 then .ok (.encBallast .discharge)
      else .error .reservedVariant) ∧
  (∀ (c : BallastCommand) (s : State), s.fault = false →
    exec (.encBallast c) s = .next { s with sRsp := some (
      match c with
      | .idle => #v[0x0A, 0x00, 0x00, 0, 0, 0, 0, 0, 0, 0, 0, 0, 0, 0, 0, 0x0F]
      | .intake => #v[0x0A, 0x00, 0x01, 0, 0, 0, 0, 0, 0, 0, 0, 0, 0, 0, 0, 0x0F]
      | .discharge => #v[0x0A, 0x00, 0x02, 0, 0, 0, 0, 0, 0, 0, 0, 0, 0, 0, 0, 0x0F]) })

/-- 43_encode.md, ENC.LIGHT: an S word with `s_op = 1`, module 2 is ENC.LIGHT of the port variant 0 On, 1 Off, 2 Blink and is
refused for 3; where the encoder is implemented it answers wire code 1 for On, 0 for Off, 2 for Blink; where it is not, it
gives no frame and sets FAULT. That the parameter exists is the spec's decision D7, that the failure is FAULT its D9; that
the meaning answers a next state with its cause, from which the step's fault is made, is this model's (assumptions 4 and 5). -/
def Obligations.EncLightFramesOrFault : Prop :=
  (∀ w : SReqWord, w.extractLsb' 0 2 = 1 → w.extractLsb' 2 2 = 2 →
    decodeSReq w =
      if w.extractLsb' 4 2 = 0 then .ok (.encLight .on)
      else if w.extractLsb' 4 2 = 1 then .ok (.encLight .off)
      else if w.extractLsb' 4 2 = 2 then .ok (.encLight .blink)
      else .error .reservedVariant) ∧
  (∀ (c : LightCommand) (s : State), s.fault = false → s.params.LIGHT_ENCODE_IMPLEMENTED = true →
    exec (.encLight c) s = .next { s with sRsp := some (
      match c with
      | .on => #v[0x0A, 0x02, 0x01, 0, 0, 0, 0, 0, 0, 0, 0, 0, 0, 0, 0, 0x0F]
      | .off => #v[0x0A, 0x02, 0x00, 0, 0, 0, 0, 0, 0, 0, 0, 0, 0, 0, 0, 0x0F]
      | .blink => #v[0x0A, 0x02, 0x02, 0, 0, 0, 0, 0, 0, 0, 0, 0, 0, 0, 0, 0x0F]) }) ∧
  (∀ (c : LightCommand) (s : State), s.fault = false → s.params.LIGHT_ENCODE_IMPLEMENTED = false →
    exec (.encLight c) s = .next { s with fault := true, sRsp := none, raised := some .lightEncode })

/-- R103: an S word with `s_op = 1`, module 1 and variant 0 is ENC.PROP of `s_cmd_x` (bits 37:6) and `s_cmd_y` (bits 69:38);
every operand pair encodes, bit for bit, least significant byte first, with bytes 10 to 14 zero; nothing else changes. -/
def Obligations.EncPropFrame : Prop :=
  (∀ w : SReqWord, w.extractLsb' 0 2 = 1 → w.extractLsb' 2 2 = 1 → w.extractLsb' 4 2 = 0 →
    decodeSReq w = .ok (.encProp (.setThrust { x := w.extractLsb' 6 32, y := w.extractLsb' 38 32 }))) ∧
  (∀ (x y : W32) (s : State), s.fault = false →
    exec (.encProp (.setThrust { x := x, y := y })) s = .next { s with sRsp := some (
      #v[0x0A, 0x01, x.extractLsb' 0 8, x.extractLsb' 8 8, x.extractLsb' 16 8, x.extractLsb' 24 8,
        y.extractLsb' 0 8, y.extractLsb' 8 8, y.extractLsb' 16 8, y.extractLsb' 24 8, 0, 0, 0, 0, 0, 0x0F]) })

/-- 43_encode.md, CHECKSUM, and 60_exceptions.md section 4: an S word with `s_op = 2` is CHECKSUM whatever its other fields
hold; it gives no response and sets FAULT, always. The operation is the spec's decision D8, FAULT its D9; that the meaning is
a next state with its cause, from which the step's fault is made, is this model's (assumptions 4 and 5). -/
def Obligations.ChecksumAlwaysSetsFault : Prop :=
  (∀ w : SReqWord, w.extractLsb' 0 2 = 2 → decodeSReq w = .ok .checksum) ∧
  (∀ s : State, s.fault = false →
    exec .checksum s = .next { s with fault := true, sRsp := none, raised := some .checksum })

/-- R105: for any encoded command the frame has 16 bytes (its type), 0x0A at 0, 0x0F at 15, 0x00 at 14, the module's identifier
at 1, and zero in the unused payload bytes (3 to 13, or 10 to 13 for Propulsion). -/
def Obligations.EncodedFrameShape : Prop :=
  ∀ (c : Command) (s : State), s.fault = false → (c.module = .light → s.params.LIGHT_ENCODE_IMPLEMENTED = true) →
    ∃ F : Frame, exec (encodeInstr c) s = .next { s with sRsp := some F } ∧
      F.toList.length = 16 ∧ F[0] = 0x0A ∧ F[15] = 0x0F ∧ F[14] = 0x00 ∧
      F[1] = (match c with | .ballast _ => 0x00 | .light _ => 0x02 | .propulsion _ => 0x01) ∧
      F[10] = 0 ∧ F[11] = 0 ∧ F[12] = 0 ∧ F[13] = 0 ∧
      (c.module ≠ .propulsion →
        F[3] = 0 ∧ F[4] = 0 ∧ F[5] = 0 ∧ F[6] = 0 ∧ F[7] = 0 ∧ F[8] = 0 ∧ F[9] = 0)

/-- 43_encode.md, marked derived there: every frame an encode operation answers is valid. -/
def Obligations.EncodedFramesAreValid : Prop :=
  ∀ (c : Command) (s t : State) (F : Frame), s.fault = false → exec (encodeInstr c) s = .next t → t.sRsp = some F →
    exec (.validate F) s = .next { s with pRsp := some (.validated true (shown s.params .passed)) }

/-! ## The decoders and the frame parser -/

/-- R116: a P word with `p_op = 2` is DEC.BALLAST of the payload in `p_data[95:0]`; the answer is by `P[0]` alone, `Ok` for 0, 1,
2 and DecodeError otherwise; nothing else changes; the port shows module 0 and variant 0, 1, 2, or error 2. -/
def Obligations.DecBallastAnswersByStateCode : Prop :=
  (∀ w : PReqWord, w.extractLsb' 0 3 = 2 →
    ∃ P : Payload, decodePReq w = .ok (.decBallast P) ∧
      ∀ (j : Nat) (hj : j < 12), P[j] = w.extractLsb' (3 + 8 * j) 8) ∧
  (∀ (P : Payload) (s : State), s.fault = false →
    exec (.decBallast P) s = .next { s with pRsp := some (.decoded (
      if P[0] = 0x00 then .ok (.ballast .idle)
      else if P[0] = 0x01 then .ok (.ballast .intake)
      else if P[0] = 0x02 then .ok (.ballast .discharge)
      else .error { module := .ballast, discriminant := P[0] })) }) ∧
  portsOf (.decoded (.ok (.ballast .idle))) = { barePorts true 0 with module := some 0, variant := some 0 } ∧
  portsOf (.decoded (.ok (.ballast .intake))) = { barePorts true 0 with module := some 0, variant := some 1 } ∧
  portsOf (.decoded (.ok (.ballast .discharge))) = { barePorts true 0 with module := some 0, variant := some 2 } ∧
  (∀ e : DecodeError, portsOf (.decoded (.error e)) = barePorts false 2)

/-- R117: a P word with `p_op = 4` is DEC.LIGHT of the payload in `p_data[95:0]`; wire 0 is Off, 1 On, 2 Blink, else DecodeError,
whatever LIGHT_ENCODE_IMPLEMENTED is; nothing else changes; the port shows module 2 and variant 1 for Off, 0 for On, 2 for
Blink, or error 2. -/
def Obligations.DecLightAnswersByStateCode : Prop :=
  (∀ w : PReqWord, w.extractLsb' 0 3 = 4 →
    ∃ P : Payload, decodePReq w = .ok (.decLight P) ∧
      ∀ (j : Nat) (hj : j < 12), P[j] = w.extractLsb' (3 + 8 * j) 8) ∧
  (∀ (P : Payload) (s : State), s.fault = false →
    exec (.decLight P) s = .next { s with pRsp := some (.decoded (
      if P[0] = 0x00 then .ok (.light .off)
      else if P[0] = 0x01 then .ok (.light .on)
      else if P[0] = 0x02 then .ok (.light .blink)
      else .error { module := .light, discriminant := P[0] })) }) ∧
  portsOf (.decoded (.ok (.light .off))) = { barePorts true 0 with module := some 2, variant := some 1 } ∧
  portsOf (.decoded (.ok (.light .on))) = { barePorts true 0 with module := some 2, variant := some 0 } ∧
  portsOf (.decoded (.ok (.light .blink))) = { barePorts true 0 with module := some 2, variant := some 2 } ∧
  (∀ e : DecodeError, portsOf (.decoded (.error e)) = barePorts false 2)

/-- R118: a P word with `p_op = 3` is DEC.PROP of the payload in `p_data[95:0]`; every payload decodes to the vector of its two
little-endian components, `P[8..11]` ignored; nothing else changes; the port shows ok, module 1, variant 0, x and y. -/
def Obligations.DecPropIsTotal : Prop :=
  (∀ w : PReqWord, w.extractLsb' 0 3 = 3 →
    ∃ P : Payload, decodePReq w = .ok (.decProp P) ∧
      ∀ (j : Nat) (hj : j < 12), P[j] = w.extractLsb' (3 + 8 * j) 8) ∧
  (∀ (P : Payload) (s : State), s.fault = false →
    exec (.decProp P) s = .next { s with pRsp := some (.decoded (.ok (.propulsion (.setThrust
      { x := P[3] ++ P[2] ++ P[1] ++ P[0], y := P[7] ++ P[6] ++ P[5] ++ P[4] })))) }) ∧
  (∀ x y : W32, portsOf (.decoded (.ok (.propulsion (.setThrust { x := x, y := y })))) =
    { barePorts true 0 with module := some 1, variant := some 0, x := some x, y := some y })

/-- 44_decode.md, PARSE (decision D12): a P word with `p_op = 5` is PARSE of the frame in `p_data`; a wrong marker, then an unknown
identifier, then an unknown state code is the one error reported; otherwise the command of the module the identifier selects;
nothing else changes. The diagnostic is the Validator's. -/
def Obligations.ParseChecksThenDecodes : Prop :=
  (∀ w : PReqWord, w.extractLsb' 0 3 = 5 →
    ∃ F : Frame, decodePReq w = .ok (.parse F) ∧
      ∀ (i : Nat) (hi : i < 16), F[i] = w.extractLsb' (3 + 8 * i) 8) ∧
  (∀ (F : Frame) (s : State), s.fault = false →
    exec (.parse F) s = .next { s with pRsp := some (
      if F[0] ≠ 0x0A ∨ F[15] ≠ 0x0F then
        .parsed (.structuralError (.markerMismatch F[0] F[15])) (shown s.params (.markers F[0] F[15]))
      else if F[1] = 0x00 then
        .parsed (
          if F[2] = 0x00 then .ok (.ballast .idle)
          else if F[2] = 0x01 then .ok (.ballast .intake)
          else if F[2] = 0x02 then .ok (.ballast .discharge)
          else .decodeError { module := .ballast, discriminant := F[2] }) (shown s.params .passed)
      else if F[1] = 0x01 then
        .parsed (.ok (.propulsion (.setThrust
          { x := F[5] ++ F[4] ++ F[3] ++ F[2], y := F[9] ++ F[8] ++ F[7] ++ F[6] }))) (shown s.params .passed)
      else if F[1] = 0x02 then
        .parsed (
          if F[2] = 0x00 then .ok (.light .off)
          else if F[2] = 0x01 then .ok (.light .on)
          else if F[2] = 0x02 then .ok (.light .blink)
          else .decodeError { module := .light, discriminant := F[2] }) (shown s.params .passed)
      else
        .parsed (.structuralError (.unknownModule F[1])) (shown s.params (.moduleId F[1]))) })

/-- 10_state.md section 5, 30_encoding.md section 5, 60_exceptions.md section 1, 44_decode.md PARSE (decisions D5, D12, D15, D16,
D22): what the P port shows for PARSE, field by field: `p_rsp_ok`, `p_rsp_err` 1 for a StructuralError and 2 for a DecodeError,
module, variant (Light On 0, Off 1) and components when ok, and `p_diag_*` where DIAG_PRESENT keeps them; a field that does not
apply has no value. -/
def Obligations.PortsShowTheParseAnswer : Prop :=
  ∀ (F : Frame) (s : State), s.fault = false →
    ∃ t, exec (.parse F) s = .next t ∧ t.pRspValid = true ∧ t.pPorts = some (
      if F[0] ≠ 0x0A ∨ F[15] ≠ 0x0F then
        { barePorts false 1 with
          diagCheck := shown s.params 1, obsStart := shown s.params F[0], obsEnd := shown s.params F[15] }
      else if F[1] = 0x00 then
        if F[2] = 0x00 then { barePorts true 0 with module := some 0, variant := some 0, diagCheck := shown s.params 0 }
        else if F[2] = 0x01 then { barePorts true 0 with module := some 0, variant := some 1, diagCheck := shown s.params 0 }
        else if F[2] = 0x02 then { barePorts true 0 with module := some 0, variant := some 2, diagCheck := shown s.params 0 }
        else { barePorts false 2 with diagCheck := shown s.params 0 }
      else if F[1] = 0x01 then
        { barePorts true 0 with
          module := some 1, variant := some 0, x := some (F[5] ++ F[4] ++ F[3] ++ F[2]),
          y := some (F[9] ++ F[8] ++ F[7] ++ F[6]), diagCheck := shown s.params 0 }
      else if F[1] = 0x02 then
        if F[2] = 0x00 then { barePorts true 0 with module := some 2, variant := some 1, diagCheck := shown s.params 0 }
        else if F[2] = 0x01 then { barePorts true 0 with module := some 2, variant := some 0, diagCheck := shown s.params 0 }
        else if F[2] = 0x02 then { barePorts true 0 with module := some 2, variant := some 2, diagCheck := shown s.params 0 }
        else { barePorts false 2 with diagCheck := shown s.params 0 }
      else
        { barePorts false 1 with diagCheck := shown s.params 2, obsId := shown s.params F[1] })

/-- 44_decode.md, PARSE: `PARSE(F)` is an `Ok` or a DecodeError if and only if `VALIDATE(F)` is true, and the two operations
present the same diagnostic. PARSE as one operation is decision D12. -/
def Obligations.ParseAndValidateAgree : Prop :=
  ∀ (F : Frame) (s tv tp : State) (valid : Bool) (dv dp : Option Diag) (r : ParseResult), s.fault = false →
    exec (.validate F) s = .next tv → tv.pRsp = some (.validated valid dv) →
    exec (.parse F) s = .next tp → tp.pRsp = some (.parsed r dp) →
      dv = dp ∧ (valid = true ↔ (∃ c, r = .ok c) ∨ ∃ e, r = .decodeError e)

/-- 44_decode.md, round-trip law: for every command `c` of module `m`, Light where its encoder is implemented,
`DEC.m(ENCODE(c)[2..13]) = Ok(c)` and `PARSE(ENCODE(c)) = Ok(c)`, components compared as patterns. That it holds for every
pair of components, and not only representative ones, is marked derived there. -/
def Obligations.DecodeOfEncodedCommandRoundTrips : Prop :=
  ∀ (c : Command) (s : State), s.fault = false → (c.module = .light → s.params.LIGHT_ENCODE_IMPLEMENTED = true) →
    ∃ F : Frame, exec (encodeInstr c) s = .next { s with sRsp := some F } ∧
      exec (decodeInstr c.module #v[F[2], F[3], F[4], F[5], F[6], F[7], F[8], F[9], F[10], F[11], F[12], F[13]]) s =
        .next { s with pRsp := some (.decoded (.ok c)) } ∧
      exec (.parse F) s = .next { s with pRsp := some (.parsed (.ok c) (shown s.params .passed)) }

/-- R121: several frames parse to one command, and among the frames that parse to `c` the one the encoder writes is the one
whose reserved bytes (14; 3 to 13 of a Ballast or Light frame; 10 to 13 of a Propulsion frame) are all zero. -/
def Obligations.EncodedFrameIsTheOneWithReservedBytesZero : Prop :=
  ∀ (c : Command) (s : State), s.fault = false →
    (∃ F : Frame, F ≠ encodeCommand c ∧
      exec (.parse F) s = .next { s with pRsp := some (.parsed (.ok c) (shown s.params .passed)) }) ∧
    (∀ (F : Frame),
      exec (.parse F) s = .next { s with pRsp := some (.parsed (.ok c) (shown s.params .passed)) } →
        (F = encodeCommand c ↔
          (F[14] = 0 ∧ F[10] = 0 ∧ F[11] = 0 ∧ F[12] = 0 ∧ F[13] = 0 ∧
            (c.module ≠ .propulsion →
              F[3] = 0 ∧ F[4] = 0 ∧ F[5] = 0 ∧ F[6] = 0 ∧ F[7] = 0 ∧ F[8] = 0 ∧ F[9] = 0)))) ∧
    ((c.module = .light → s.params.LIGHT_ENCODE_IMPLEMENTED = true) →
      exec (encodeInstr c) s = .next { s with sRsp := some (encodeCommand c) })

/-- 20_memory.md section 5, marked derived there (D17): a non-zero byte in a reserved region changes no result. PARSE reads bytes
0, 1, 15, then 2, and 3 to 9 only under the Propulsion identifier; DEC.BALLAST and DEC.LIGHT read payload byte 0; DEC.PROP
payload bytes 0 to 7. -/
def Obligations.ReservedBytesChangeNoResult : Prop :=
  (∀ (F G : Frame) (s : State), F[0] = G[0] → F[1] = G[1] → F[15] = G[15] → F[2] = G[2] →
    (F[1] = 0x01 → F[3] = G[3] ∧ F[4] = G[4] ∧ F[5] = G[5] ∧ F[6] = G[6] ∧ F[7] = G[7] ∧ F[8] = G[8] ∧ F[9] = G[9]) →
      exec (.parse F) s = exec (.parse G) s) ∧
  (∀ (P Q : Payload) (s : State), P[0] = Q[0] →
    exec (.decBallast P) s = exec (.decBallast Q) s ∧ exec (.decLight P) s = exec (.decLight Q) s) ∧
  (∀ (P Q : Payload) (s : State), P[0] = Q[0] → P[1] = Q[1] → P[2] = Q[2] → P[3] = Q[3] → P[4] = Q[4] → P[5] = Q[5] →
    P[6] = Q[6] → P[7] = Q[7] → exec (.decProp P) s = exec (.decProp Q) s)

/-- 70_reset_and_hazards.md section 3: with the frame validated, the decoder of its module chosen, and exactly `F[2..13]` passed,
DEC.m and PARSE answer the same; a payload decoder's result is tied to a frame only under these premises. -/
def Obligations.MatchedDecodeAgreesWithParse : Prop :=
  ∀ (F : Frame) (m : Module) (P : Payload) (s td tp : State) (r : DecodeResult) (r' : ParseResult) (d : Option Diag),
    s.fault = false → matchedDecode F m P →
    exec (decodeInstr m P) s = .next td → td.pRsp = some (.decoded r) →
    exec (.parse F) s = .next tp → tp.pRsp = some (.parsed r' d) →
      (∀ c, r = .ok c ↔ r' = .ok c) ∧ (∀ e, r = .error e ↔ r' = .decodeError e)

/-! ## The command words -/

/-- 30_encoding.md section 3: each command word, received, is answered with its command and nothing else changes. That a command
word runs as PARSE of its frame is this model's reading (assumption 3). -/
def Obligations.CommandWordsAnswerTheirCommand : Prop :=
  ∀ s : State, s.fault = false →
    exec .ballastIdle s = .next { s with pRsp := some (.parsed (.ok (.ballast .idle)) (shown s.params .passed)) } ∧
    exec .ballastIntake s = .next { s with pRsp := some (.parsed (.ok (.ballast .intake)) (shown s.params .passed)) } ∧
    exec .ballastDischarge s =
      .next { s with pRsp := some (.parsed (.ok (.ballast .discharge)) (shown s.params .passed)) } ∧
    exec .lightOff s = .next { s with pRsp := some (.parsed (.ok (.light .off)) (shown s.params .passed)) } ∧
    exec .lightOn s = .next { s with pRsp := some (.parsed (.ok (.light .on)) (shown s.params .passed)) } ∧
    exec .lightBlink s = .next { s with pRsp := some (.parsed (.ok (.light .blink)) (shown s.params .passed)) } ∧
    ∀ v : DirectionVector, exec (.propSetThrust v) s =
      .next { s with pRsp := some (.parsed (.ok (.propulsion (.setThrust v))) (shown s.params .passed)) }

/-- 30_encoding.md sections 3 and 4: the mask and match table of the command words and the parser describe one map. A frame word
spells an instruction exactly when PARSE of it answers `Ok`, the instruction then does what PARSE of that very frame does
whatever its ignored bytes hold, and the class of any other frame is the error PARSE answers. -/
def Obligations.CommandTableAgreesWithParser : Prop :=
  ∀ w : FrameWord,
    (∀ i, decodeFrame w = .ok i → (∀ s, exec i s = exec (.parse (frameOfBus w)) s) ∧ ∃ c, parseFrame (frameOfBus w) = .ok c) ∧
    (decodeFrame w = .error .badMarker →
      ∃ a b, parseFrame (frameOfBus w) = .structuralError (.markerMismatch a b)) ∧
    (decodeFrame w = .error .unknownModule → ∃ id, parseFrame (frameOfBus w) = .structuralError (.unknownModule id)) ∧
    (decodeFrame w = .error .unknownVariant → ∃ e, parseFrame (frameOfBus w) = .decodeError e)

/-- 30_encoding.md section 2 (the port column is decision D5): the wire state codes read both ways, every other byte no code, and
the port codes, which differ from the wire codes for Light On and Off. -/
def Obligations.StateCodesOnWireAndPort : Prop :=
  (∀ (b : Byte) (c : BallastCommand), ballastOfWire b = some c ↔
    b = (match c with | .idle => 0 | .intake => 1 | .discharge => 2)) ∧
  (∀ (b : Byte) (c : LightCommand), lightOfWire b = some c ↔ b = (match c with | .on => 1 | .off => 0 | .blink => 2)) ∧
  (∀ c : BallastCommand, ballastOfWire (ballastWire c) = some c) ∧
  (∀ c : LightCommand, lightOfWire (lightWire c) = some c) ∧
  (∀ b : Byte, 3 ≤ b.toNat → ballastOfWire b = none ∧ lightOfWire b = none) ∧
  (∀ (v : BitVec 2) (c : BallastCommand), ballastOfPort v = some c ↔
    v = (match c with | .idle => 0 | .intake => 1 | .discharge => 2)) ∧
  (∀ (v : BitVec 2) (c : LightCommand), lightOfPort v = some c ↔ v = (match c with | .on => 0 | .off => 1 | .blink => 2))

/-! ## Errors, FAULT, reset -/

/-- 60_exceptions.md sections 4 and 8 (decisions D9, D23): while FAULT is 1 no instruction is served; its channel gives no
response and nothing else changes. The step it is asked in ends in a fault, as
`OnlyResetClearsFault` states; that the meaning itself answers a next state is this model's (assumption 6). -/
def Obligations.FaultedBlockServesNothing : Prop :=
  ∀ (i : Instr) (s : State), s.fault = true →
    exec i s = .next (match i.channel with
      | .S => { s with sRsp := none }
      | .P => { s with pRsp := none })

/-- 10_state.md section 3 and 44_decode.md (totality): with FAULT 0 exactly CHECKSUM, and ENC.LIGHT where the Light encoder is not
implemented, set FAULT; every other instruction gives a response on its channel. That the meaning of the two that set it answers
a next state, the one with FAULT 1, is this model's (assumption 4); the outcome of their step is the fault that 60_exceptions.md
section 4 calls for, as `StepFaultsOnUnimplemented` states. -/
def Obligations.OnlyChecksumAndUnimplementedLightSetFault : Prop :=
  ∀ (i : Instr) (s : State), s.fault = false →
    ∃ t, exec i s = .next t ∧
      (t.fault = true ↔ i = .checksum ∨ (s.params.LIGHT_ENCODE_IMPLEMENTED = false ∧ ∃ c, i = .encLight c)) ∧
      (t.fault = false → match i.channel with
        | .S => ∃ F, t.sRsp = some F
        | .P => ∃ r, t.pRsp = some r)

/-- 60_exceptions.md section 4: the frame of every instruction. A parser instruction, error or not, changes its own response and
nothing else. A serializer instruction changes its own response and nothing else, but where it raises Unimplemented: CHECKSUM,
and ENC.LIGHT where it is not implemented, from FAULT 0; these alone change FAULT, to 1, and leave their cause. The cause in
`raised`, from which the step's outcome is made, is this model's field (assumption 5). -/
def Obligations.InstructionsChangeOnlyTheirChannel : Prop :=
  ∀ (i : Instr) (s t : State), exec i s = .next t →
    (i.channel = .P → t = { s with pRsp := t.pRsp }) ∧
    (i.channel = .S →
      t = { s with sRsp := t.sRsp } ∨
      (s.fault = false ∧ i = .checksum ∧ t = { s with fault := true, sRsp := none, raised := some .checksum }) ∨
      (s.fault = false ∧ s.params.LIGHT_ENCODE_IMPLEMENTED = false ∧ (∃ c, i = .encLight c) ∧
        t = { s with fault := true, sRsp := none, raised := some .lightEncode }))

/-- 10_state.md section 8 (decision D10): after reset FAULT is 0 and no response is pending on either channel. The parameters at
the values 00_scope.md section 4 takes, no exception shown and no input waiting are this model's (assumptions 2, 5, 8, 9). -/
def Obligations.ResetState : Prop :=
  State.reset.fault = false ∧ State.reset.sRspValid = false ∧ State.reset.pRspValid = false ∧
    State.reset.params.LIGHT_ENCODE_IMPLEMENTED = true ∧ State.reset.params.DIAG_PRESENT = true ∧
    State.reset.raised = none ∧ State.reset.inputs = []

/-- 70_reset_and_hazards.md section 1 (decision D10): a step in which `rst` is asserted puts the block in its initial state from any
state, whatever requests the step presents, which are dropped without a response; the parameters stay. -/
def Obligations.RstPutsTheInitialState : Prop :=
  ∀ (s : State) (inp : Inputs) (rest : List Inputs), s.inputs = inp :: rest → inp.rst = true →
    step s = .next { params := s.params, fault := false, sRsp := none, pRsp := none, raised := none, inputs := rest }

/-- 10_state.md section 3, 60_exceptions.md section 5, U15 of 93_implementation_defined.md (decisions D9, D23): FAULT is sticky and
the block is stuck. From a state with FAULT 1, a step whose inputs do not assert `rst` has no next state: it ends in the fault
`stuck`, the block left with FAULT 1, no response on either channel and nothing else changed, unless it presents an ill-formed
request, which is refused (assumption 7). That being stuck is a fault reason is this model's (assumption 6). -/
def Obligations.OnlyResetClearsFault : Prop :=
  ∀ s : State, s.fault = true → (∀ inp, s.inputs.head? = some inp → inp.rst = false) →
    step s = .fault (.stuck { s with inputs := s.inputs.tail, sRsp := none, pRsp := none, raised := none }) ∨
    ∃ inp rest why, s.inputs = inp :: rest ∧ step s = .refused why ∧
      ((∃ w, inp.sReq = some w ∧ sReqWellFormed w = false) ∨ ∃ w, inp.pReq = some (.request w) ∧ pReqWellFormed w = false)

/-! ## The step -/

/-- A step runs the decoded instruction: where the next step's inputs present one request word or frame that decodes to `i`, the
step is the outcome of `exec i` at the state whose inputs are used up by one, with no response presented yet and no cause
(10_state.md section 6; assumption 1). What `outcomeOf` adds, `OutcomeOfAFaultedStateIsAFault` states. -/
def Obligations.StepRunsTheDecodedInstruction : Prop :=
  ∀ (s : State) (inp : Inputs) (rest : List Inputs) (i : Instr), s.inputs = inp :: rest → inp.rst = false →
    (((∃ w, inp.sReq = some w ∧ decode (.sreq w) = .ok i) ∧ inp.pReq = none) ∨
      (inp.sReq = none ∧ ∃ w, inp.pReq = some (.request w) ∧ decode (.preq w) = .ok i) ∨
      (inp.sReq = none ∧ ∃ w, inp.pReq = some (.frame w) ∧ decode (.frame w) = .ok i)) →
    step s = outcomeOf (exec i { s with inputs := rest, sRsp := none, pRsp := none, raised := none })

/-- 30_encoding.md section 4: a received frame that spells no command is still answered, by PARSE, with its error. -/
def Obligations.StepParsesFramesThatSpellNoCommand : Prop :=
  ∀ (s : State) (inp : Inputs) (rest : List Inputs) (w : FrameWord) (why : DecodeReject), s.inputs = inp :: rest →
    inp.rst = false → inp.sReq = none → inp.pReq = some (.frame w) → decode (.frame w) = .error why →
    step s = outcomeOf (exec (.parse (frameOfBus w)) { s with inputs := rest, sRsp := none, pRsp := none, raised := none })

/-- 10_state.md section 6: with a request on each channel both instructions run in the one step, P's first where the free bit
`parserFirst` says so, S's first otherwise, whatever is presented on P: a request word, a frame that spells a command, or one
that spells none and is parsed. That the order is that bit is this model's (assumption 10), and so is the frame presented as
itself (assumption 3). -/
def Obligations.StepRunsBothRequests : Prop :=
  ∀ (s : State) (inp : Inputs) (rest : List Inputs) (ws : SReqWord) (p : PInput) (i j : Instr),
    s.inputs = inp :: rest → inp.rst = false → inp.sReq = some ws → inp.pReq = some p →
    decode (.sreq ws) = .ok i → asksP p j →
    ∃ t, (if inp.parserFirst then exec j else exec i) { s with inputs := rest, sRsp := none, pRsp := none, raised := none } =
        .next t ∧
      step s = outcomeOf ((if inp.parserFirst then exec i else exec j) t)

/-- 10_state.md section 6: a step of S and a step of P commute whenever S does not raise Unimplemented, in every state. -/
def Obligations.SerializerAndParserCommute : Prop :=
  ∀ (i j : Instr) (s ti tj : State), i.channel = .S → j.channel = .P →
    (s.fault = false → i ≠ .checksum ∧ (s.params.LIGHT_ENCODE_IMPLEMENTED = true ∨ ∀ c, i ≠ .encLight c)) →
    exec i s = .next ti → exec j s = .next tj → exec j ti = exec i tj

/-- 10_state.md section 6 (decision D24): when S raises Unimplemented, by CHECKSUM or by ENC.LIGHT where it is not implemented, in
the step in which P has a request, both orders are admitted: P answered as its instruction answers and then FAULT set, or FAULT
set and P's request not answered. The outcome is the fault of 60_exceptions.md section 4; that S's instruction alone answers a
next state, and that the order is the bit `parserFirst`, is this model's (assumptions 4 and 10), and
so is the state the fault carries (assumption 24). -/
def Obligations.BothOrdersWhenTheSerializerFaults : Prop :=
  ∀ (s : State) (ws : SReqWord) (p : PInput) (i j : Instr) (cause : Unimplemented) (rest : List Inputs), s.fault = false →
    decode (.sreq ws) = .ok i → asksP p j →
    ((i = .checksum ∧ cause = .checksum) ∨
      ((∃ c, i = .encLight c) ∧ s.params.LIGHT_ENCODE_IMPLEMENTED = false ∧ cause = .lightEncode)) →
    ∃ r, exec j { s with inputs := rest, sRsp := none, pRsp := none, raised := none } =
        .next { s with inputs := rest, sRsp := none, pRsp := some r, raised := none } ∧
      step { s with inputs := { rst := false, sReq := some ws, pReq := some p, parserFirst := true } :: rest } =
        .fault (.unimplemented cause
          { s with inputs := rest, fault := true, sRsp := none, pRsp := some r, raised := none }) ∧
      step { s with inputs := { rst := false, sReq := some ws, pReq := some p, parserFirst := false } :: rest } =
        .fault (.unimplemented cause { s with inputs := rest, fault := true, sRsp := none, pRsp := none, raised := none })

/-- 30_encoding.md section 5 and 60_exceptions.md section 1 (decision D6): a step is refused exactly when `rst` is not asserted and
it presents an ill-formed request word, on either channel. That reset comes before the refusal, and the refusal before FAULT, is
this model's (assumption 7). -/
def Obligations.StepRefusesExactlyIllFormedRequests : Prop :=
  ∀ s : State,
    ((∃ why, step s = .refused why) ↔
      ∃ inp rest, s.inputs = inp :: rest ∧ inp.rst = false ∧
        ((∃ w, inp.sReq = some w ∧ sReqWellFormed w = false) ∨ ∃ w, inp.pReq = some (.request w) ∧ pReqWellFormed w = false))

/-- 60_exceptions.md section 4 (decisions D9, D23; R143's "In the model the step's outcome is `fault Unimplemented(cause)`"): a step
from FAULT 0 whose S request is CHECKSUM, or ENC.LIGHT where it is not implemented, ends in that fault with its cause, the block
left with FAULT 1, no response on S and no cause latched; beside a P request the block may have answered that one. The state the
fault carries is this model's (assumption 24). -/
def Obligations.StepFaultsOnUnimplemented : Prop :=
  ∀ (s : State) (inp : Inputs) (rest : List Inputs) (ws : SReqWord) (i : Instr) (cause : Unimplemented), s.fault = false →
    s.inputs = inp :: rest → inp.rst = false → inp.sReq = some ws → decode (.sreq ws) = .ok i →
    ((i = .checksum ∧ cause = .checksum) ∨
      ((∃ c, i = .encLight c) ∧ s.params.LIGHT_ENCODE_IMPLEMENTED = false ∧ cause = .lightEncode)) →
    (inp.pReq = none →
      step s = .fault (.unimplemented cause
        { s with inputs := rest, fault := true, sRsp := none, pRsp := none, raised := none })) ∧
    (∀ p j, inp.pReq = some p → asksP p j → ∃ r, step s = .fault (.unimplemented cause
        { s with inputs := rest, fault := true, sRsp := none, pRsp := r, raised := none }))

/-- 60_exceptions.md section 4 and U15 of 93_implementation_defined.md: no other step faults. A fault `Unimplemented(cause)` comes
from FAULT 0 and an S request that raises that cause; a fault `stuck` from FAULT 1; neither from a step that asserts `rst`. That
being stuck is a fault reason is this model's (assumption 6). -/
def Obligations.OnlyUnimplementedAndFaultedBlocksFault : Prop :=
  ∀ (s : State) (r : Fault), step s = .fault r →
    (∀ inp, s.inputs.head? = some inp → inp.rst = false) ∧
    match r with
    | .stuck _ => s.fault = true
    | .unimplemented cause _ => s.fault = false ∧ ∃ inp rest ws i, s.inputs = inp :: rest ∧ inp.sReq = some ws ∧
        decode (.sreq ws) = .ok i ∧
        ((i = .checksum ∧ cause = .checksum) ∨
          ((∃ c, i = .encLight c) ∧ s.params.LIGHT_ENCODE_IMPLEMENTED = false ∧ cause = .lightEncode))

/-- 60_exceptions.md section 4: "a faulted state is never a final state of a run". No step, from any state, has a next state with
FAULT 1, so no run that starts with FAULT 0 and goes on ends with FAULT 1 (decision D9). -/
def Obligations.FaultedStatesAreNeverFinal : Prop :=
  (∀ s t : State, step s = .next t → t.fault = false) ∧
  (∀ (n : Nat) (s t : State), s.fault = false → Sys2Proof.core.run n s = .next t → t.fault = false)

/-- 60_exceptions.md section 5 and 70_reset_and_hazards.md section 1 (decision D10): "the only way on is reset". From the state any
fault left the block in, a step that asserts `rst` puts it in its initial state, whatever it presents. That the fault carries
that state is this model's (assumption 24). -/
def Obligations.RstRecoversFromAFault : Prop :=
  ∀ (s : State) (r : Fault) (inp : Inputs) (rest : List Inputs), step s = .fault r → inp.rst = true →
    (leftBy r).fault = true ∧
    step { leftBy r with inputs := inp :: rest } =
      .next { params := s.params, fault := false, sRsp := none, pRsp := none, raised := none, inputs := rest }

/-- 60_exceptions.md section 4: how the outcome of a step is made from the state the agents left, as this model splits it between
`exec` and `step` (assumption 4): with FAULT 0 that state is the next state; with FAULT 1 the outcome is a fault, Unimplemented
where an instruction of the step left its cause, else `stuck`; a refusal stays one. -/
def Obligations.OutcomeOfAFaultedStateIsAFault : Prop :=
  (∀ t : State, t.fault = false → outcomeOf (.next t) = .next t) ∧
  (∀ (t : State) (cause : Unimplemented), t.fault = true → t.raised = some cause →
    outcomeOf (.next t) = .fault (.unimplemented cause { t with raised := none })) ∧
  (∀ t : State, t.fault = true → t.raised = none → outcomeOf (.next t) = .fault (.stuck t)) ∧
  (∀ why : Refusal, outcomeOf (.refused why) = .refused why)

/-- 70_reset_and_hazards.md section 1: with FAULT 0 and nothing presented the block waits: nothing changes but that no response is
presented any longer. -/
def Obligations.IdleStepOnlyWaits : Prop :=
  ∀ (s : State), s.fault = false →
    (s.inputs = [] ∨ ∃ inp rest, s.inputs = inp :: rest ∧ inp.rst = false ∧ inp.sReq = none ∧ inp.pReq = none) →
    step s = .next { s with inputs := s.inputs.tail, sRsp := none, pRsp := none, raised := none }

/-- 10_state.md section 1 and 44_decode.md (purity): a step depends on FAULT, the parameters and what the host drives, and on
nothing an earlier request left: states that agree in those three take the same step, whatever responses they still show. -/
def Obligations.ResponsesDependOnTheRequestOnly : Prop :=
  ∀ s t : State, s.fault = t.fault → s.params = t.params → s.inputs = t.inputs → step s = step t

/-- 10_state.md sections 3 and 8: no step changes the build-time parameters, reset included, and none that ends in a fault. -/
def Obligations.ParametersNeverChange : Prop :=
  (∀ s t : State, step s = .next t → t.params = s.params ∧ t.inputs = s.inputs.tail) ∧
  (∀ (s : State) (r : Fault), step s = .fault r → (leftBy r).params = s.params ∧ (leftBy r).inputs = s.inputs.tail)

/-- The responses the block can show after reset (it shows none) are legal. -/
def Obligations.OutputsLegalAtReset : Prop := outputsLegal State.reset = true

/-- Every step keeps the outputs legal, from every state whose outputs are: frames of the encoder's shape on S (43_encode.md), no
error the parser cannot have found and a diagnostic that agrees with it on P (60_exceptions.md section 1, 42_validator.md), no
cause latched. A step that ends in a fault leaves the block with FAULT 1, the outputs legal and no response on S, nor on P but
one P gave in the step FAULT was set in; it is Unimplemented(LightEncode) only where the Light encoder is not implemented. FAULT
and the orders rest on decisions D9, D23, D24. -/
def Obligations.OutputsStayLegal : Prop :=
  ∀ s : State, outputsLegal s = true →
    (∀ t, step s = .next t → outputsLegal t = true) ∧ (∀ r, step s = .fault r → faultLegal r = true)

/-- 70_reset_and_hazards.md sections 4 and 5: "a block with `FAULT = 0` answers every well-formed request". A host that keeps its
duties in every step gets a good run of any length from any state with FAULT 0: no refusal, every request answered, FAULT 0
at the end. -/
def Obligations.DutifulHostGetsAGoodRun : Prop :=
  ∀ s : State, s.fault = false → (∀ inp ∈ s.inputs, dutiful s.params inp = true) →
    ∀ n : Nat, goodRun n s = true

/-- The table's words placed by `withFetchWord` are what the next step runs: where `decodeTableWord` reads an instruction, the step
is the outcome of that instruction (assumptions 2 and 20). -/
def Obligations.PlacedTableWordRunsNext : Prop :=
  ∀ (s : State) (nbits w : Nat) (i : Instr), decodeTableWord nbits w = some i →
    step (s.withFetchWord nbits w) = outcomeOf (exec i { s with sRsp := none, pRsp := none, raised := none })
end

