-- ==== Sys2Proof/Laws/Bytes.lean ====
section
/-! SUPPORT. Packing bytes into a word and reading them back; frames and payloads on the bus; the fields of a request word
built from its fields. -/

namespace Sys2Proof.Machine

theorem byteOf_packBytes_zero {n : Nat} (hn : 8 ≤ n) (b : Byte) (bs : List Byte) :
    byteOf (packBytes n (b :: bs)) 0 = b := by
  ext j hj
  have : j < n := by omega
  simp [byteOf, packBytes, hj, this, BitVec.getLsbD_eq_getElem]

theorem byteOf_packBytes_succ {n : Nat} (i : Nat) (b : Byte) (bs : List Byte) (h : 8 * i + 16 ≤ n) :
    byteOf (packBytes n (b :: bs)) (i + 1) = byteOf (packBytes n bs) i := by
  ext j hj
  have h1 : 8 * (i + 1) + j < n := by omega
  have h2 : ¬ 8 * (i + 1) + j < 8 := by omega
  have h3 : 8 * (i + 1) + j - 8 = 8 * i + j := by omega
  have h4 : BitVec.getLsbD b (8 * (i + 1) + j) = false := BitVec.getLsbD_of_ge _ _ (by omega)
  simp only [byteOf, packBytes, BitVec.getElem_extractLsb', BitVec.getLsbD_or, BitVec.getLsbD_setWidth,
    BitVec.getLsbD_shiftLeft, h1, h2, h3, h4]
  simp

/-- Byte `i` of a packed list is the list's entry `i`. -/
theorem byteOf_packBytes {n : Nat} (bs : List Byte) (i : Nat) (hi : i < bs.length) (h : 8 * i + 8 ≤ n) :
    byteOf (packBytes n bs) i = bs[i] := by
  induction bs generalizing i with
  | nil => simp at hi
  | cons b bs ih =>
    cases i with
    | zero => exact byteOf_packBytes_zero (by omega) b bs
    | succ i =>
      rw [byteOf_packBytes_succ _ _ _ (by omega)]
      simpa using ih i (by simpa using hi) (by omega)

/-- A 32-bit pattern is put together again from its four bytes. -/
theorem le32_bytes (w : W32) : le32 (byteOf w 0) (byteOf w 1) (byteOf w 2) (byteOf w 3) = w := by
  ext j hj
  simp [le32, packBytes, byteOf]
  grind

theorem byteOf_le32_0 (a b c d : Byte) : byteOf (le32 a b c d) 0 = a :=
  byteOf_packBytes [a, b, c, d] 0 (by simp) (by omega)

theorem byteOf_le32_1 (a b c d : Byte) : byteOf (le32 a b c d) 1 = b :=
  byteOf_packBytes [a, b, c, d] 1 (by simp) (by omega)

theorem byteOf_le32_2 (a b c d : Byte) : byteOf (le32 a b c d) 2 = c :=
  byteOf_packBytes [a, b, c, d] 2 (by simp) (by omega)

theorem byteOf_le32_3 (a b c d : Byte) : byteOf (le32 a b c d) 3 = d :=
  byteOf_packBytes [a, b, c, d] 3 (by simp) (by omega)

/-- A frame is its sixteen bytes. -/
theorem frame_eta (F : Frame) :
    F = #v[F[0], F[1], F[2], F[3], F[4], F[5], F[6], F[7], F[8], F[9], F[10], F[11], F[12], F[13], F[14], F[15]] := by
  apply Vector.ext
  intro i hi
  rcases i with _|_|_|_|_|_|_|_|_|_|_|_|_|_|_|_|i
  all_goals first | rfl | omega

/-- A payload is its twelve bytes. -/
theorem payload_eta (P : Payload) :
    P = #v[P[0], P[1], P[2], P[3], P[4], P[5], P[6], P[7], P[8], P[9], P[10], P[11]] := by
  apply Vector.ext
  intro i hi
  rcases i with _|_|_|_|_|_|_|_|_|_|_|_|i
  all_goals first | rfl | omega

/-! ## Fields of a request word built from its fields -/

theorem sOp_sReqWord (op m v : BitVec 2) (x y : W32) : sOp (sReqWord op m v x y) = op := by
  ext j hj
  simp only [sOp, sReqWord, BitVec.getElem_extractLsb', BitVec.getLsbD_or, BitVec.getLsbD_setWidth,
    BitVec.getLsbD_shiftLeft]
  grind

theorem sCmdModule_sReqWord (op m v : BitVec 2) (x y : W32) : sCmdModule (sReqWord op m v x y) = m := by
  ext j hj
  simp only [sCmdModule, sReqWord, BitVec.getElem_extractLsb', BitVec.getLsbD_or, BitVec.getLsbD_setWidth,
    BitVec.getLsbD_shiftLeft]
  grind

theorem sCmdVariant_sReqWord (op m v : BitVec 2) (x y : W32) : sCmdVariant (sReqWord op m v x y) = v := by
  ext j hj
  simp only [sCmdVariant, sReqWord, BitVec.getElem_extractLsb', BitVec.getLsbD_or, BitVec.getLsbD_setWidth,
    BitVec.getLsbD_shiftLeft]
  grind

theorem pOp_pReqWord (op : BitVec 3) (d : BitVec 128) : pOp (pReqWord op d) = op := by
  ext j hj
  simp only [pOp, pReqWord, BitVec.getElem_extractLsb', BitVec.getLsbD_or, BitVec.getLsbD_setWidth,
    BitVec.getLsbD_shiftLeft]
  grind

end Sys2Proof.Machine
end

