-- ==== Sys2Proof/Laws/State.lean ====
section
/-! SUPPORT. One lemma per field of State per named update (true by rfl), so that no proof unfolds a record update. -/

namespace Sys2Proof.Machine

variable (s : State)

@[simp] theorem State.respondS_params (F : Frame) : (s.respondS F).params = s.params := rfl
@[simp] theorem State.respondS_fault (F : Frame) : (s.respondS F).fault = s.fault := rfl
@[simp] theorem State.respondS_sRsp (F : Frame) : (s.respondS F).sRsp = some F := rfl
@[simp] theorem State.respondS_pRsp (F : Frame) : (s.respondS F).pRsp = s.pRsp := rfl
@[simp] theorem State.respondS_raised (F : Frame) : (s.respondS F).raised = s.raised := rfl
@[simp] theorem State.respondS_inputs (F : Frame) : (s.respondS F).inputs = s.inputs := rfl

@[simp] theorem State.respondP_params (r : PResponse) : (s.respondP r).params = s.params := rfl
@[simp] theorem State.respondP_fault (r : PResponse) : (s.respondP r).fault = s.fault := rfl
@[simp] theorem State.respondP_sRsp (r : PResponse) : (s.respondP r).sRsp = s.sRsp := rfl
@[simp] theorem State.respondP_pRsp (r : PResponse) : (s.respondP r).pRsp = some r := rfl
@[simp] theorem State.respondP_raised (r : PResponse) : (s.respondP r).raised = s.raised := rfl
@[simp] theorem State.respondP_inputs (r : PResponse) : (s.respondP r).inputs = s.inputs := rfl

@[simp] theorem State.silenceS_params : (s.silenceS).params = s.params := rfl
@[simp] theorem State.silenceS_fault : (s.silenceS).fault = s.fault := rfl
@[simp] theorem State.silenceS_sRsp : (s.silenceS).sRsp = none := rfl
@[simp] theorem State.silenceS_pRsp : (s.silenceS).pRsp = s.pRsp := rfl
@[simp] theorem State.silenceS_raised : (s.silenceS).raised = s.raised := rfl
@[simp] theorem State.silenceS_inputs : (s.silenceS).inputs = s.inputs := rfl

@[simp] theorem State.silenceP_params : (s.silenceP).params = s.params := rfl
@[simp] theorem State.silenceP_fault : (s.silenceP).fault = s.fault := rfl
@[simp] theorem State.silenceP_sRsp : (s.silenceP).sRsp = s.sRsp := rfl
@[simp] theorem State.silenceP_pRsp : (s.silenceP).pRsp = none := rfl
@[simp] theorem State.silenceP_raised : (s.silenceP).raised = s.raised := rfl
@[simp] theorem State.silenceP_inputs : (s.silenceP).inputs = s.inputs := rfl

@[simp] theorem State.raiseUnimplemented_params (e : Unimplemented) : (s.raiseUnimplemented e).params = s.params := rfl
@[simp] theorem State.raiseUnimplemented_fault (e : Unimplemented) : (s.raiseUnimplemented e).fault = true := rfl
@[simp] theorem State.raiseUnimplemented_sRsp (e : Unimplemented) : (s.raiseUnimplemented e).sRsp = none := rfl
@[simp] theorem State.raiseUnimplemented_pRsp (e : Unimplemented) : (s.raiseUnimplemented e).pRsp = s.pRsp := rfl
@[simp] theorem State.raiseUnimplemented_raised (e : Unimplemented) : (s.raiseUnimplemented e).raised = some e := rfl
@[simp] theorem State.raiseUnimplemented_inputs (e : Unimplemented) : (s.raiseUnimplemented e).inputs = s.inputs := rfl

@[simp] theorem State.dropCause_params : (s.dropCause).params = s.params := rfl
@[simp] theorem State.dropCause_fault : (s.dropCause).fault = s.fault := rfl
@[simp] theorem State.dropCause_sRsp : (s.dropCause).sRsp = s.sRsp := rfl
@[simp] theorem State.dropCause_pRsp : (s.dropCause).pRsp = s.pRsp := rfl
@[simp] theorem State.dropCause_raised : (s.dropCause).raised = none := rfl
@[simp] theorem State.dropCause_inputs : (s.dropCause).inputs = s.inputs := rfl

@[simp] theorem State.applyReset_params : (s.applyReset).params = s.params := rfl
@[simp] theorem State.applyReset_fault : (s.applyReset).fault = false := rfl
@[simp] theorem State.applyReset_sRsp : (s.applyReset).sRsp = none := rfl
@[simp] theorem State.applyReset_pRsp : (s.applyReset).pRsp = none := rfl
@[simp] theorem State.applyReset_raised : (s.applyReset).raised = none := rfl
@[simp] theorem State.applyReset_inputs : (s.applyReset).inputs = s.inputs := rfl

@[simp] theorem State.beginStep_params : (s.beginStep).params = s.params := rfl
@[simp] theorem State.beginStep_fault : (s.beginStep).fault = s.fault := rfl
@[simp] theorem State.beginStep_sRsp : (s.beginStep).sRsp = none := rfl
@[simp] theorem State.beginStep_pRsp : (s.beginStep).pRsp = none := rfl
@[simp] theorem State.beginStep_raised : (s.beginStep).raised = none := rfl
@[simp] theorem State.beginStep_inputs : (s.beginStep).inputs = s.inputs.tail := rfl

@[simp] theorem State.present_params (p : Presented) : (s.present p).params = s.params := rfl
@[simp] theorem State.present_fault (p : Presented) : (s.present p).fault = s.fault := rfl
@[simp] theorem State.present_sRsp (p : Presented) : (s.present p).sRsp = s.sRsp := rfl
@[simp] theorem State.present_pRsp (p : Presented) : (s.present p).pRsp = s.pRsp := rfl
@[simp] theorem State.present_raised (p : Presented) : (s.present p).raised = s.raised := rfl
@[simp] theorem State.present_inputs (p : Presented) : (s.present p).inputs = inputsOf p :: s.inputs := rfl

end Sys2Proof.Machine
end

