-- ==== Sys2Proof/Laws/Ops.lean ====
section
/-! SUPPORT. What the shared operations can do, said once: serving on either channel, the order of the two agents. -/

namespace Sys2Proof.Machine

variable {s t : State} {act : State → State}

/-- With FAULT 0 the S agent performs the operation. -/
theorem serveS_running (h : s.fault = false) : serveS s act = .next (act s) := by simp [serveS, h]

/-- With FAULT 1 the S agent gives no response and changes nothing else. -/
theorem serveS_faulted (h : s.fault = true) : serveS s act = .next s.silenceS := by simp [serveS, h]

/-- With FAULT 0 the P agent performs the operation. -/
theorem serveP_running (h : s.fault = false) : serveP s act = .next (act s) := by simp [serveP, h]

/-- With FAULT 1 the P agent gives no response and changes nothing else. -/
theorem serveP_faulted (h : s.fault = true) : serveP s act = .next s.silenceP := by simp [serveP, h]

/-- Serving on S always goes on, in one of two ways. -/
theorem serveS_cases (h : serveS s act = .next t) :
    (s.fault = false ∧ t = act s) ∨ (s.fault = true ∧ t = s.silenceS) := by
  unfold serveS at h
  cases hf : s.fault <;> simp_all

/-- Serving on P always goes on, in one of two ways. -/
theorem serveP_cases (h : serveP s act = .next t) :
    (s.fault = false ∧ t = act s) ∨ (s.fault = true ∧ t = s.silenceP) := by
  unfold serveP at h
  cases hf : s.fault <;> simp_all

/-- With FAULT 0 a step's outcome is the state its agents left. -/
theorem outcomeOf_running (h : t.fault = false) : outcomeOf (.next t) = .next t := by simp [outcomeOf, h]

/-- Where an instruction raised Unimplemented the outcome is that fault. -/
theorem outcomeOf_raised {c : Unimplemented} (h : t.fault = true) (hr : t.raised = some c) :
    outcomeOf (.next t) = .fault (.unimplemented c t.dropCause) := by simp [outcomeOf, h, hr]

/-- With FAULT 1 and nothing raised in the step the block is stuck. -/
theorem outcomeOf_stuck (h : t.fault = true) (hr : t.raised = none) : outcomeOf (.next t) = .fault (.stuck t) := by
  simp [outcomeOf, h, hr]

/-- A next state is the one the agents left, with FAULT 0. -/
theorem outcomeOf_next {o : Host.Outcome State Fault Refusal} (h : outcomeOf o = .next t) : o = .next t ∧ t.fault = false := by
  unfold outcomeOf at h
  split at h
  · split at h
    · split at h <;> cases h
    · cases h; exact ⟨rfl, by simp_all⟩
  · cases h
  · cases h

@[simp] theorem andThen_next (f : State → Host.Outcome State Fault Refusal) : andThen (.next s) f = f s := rfl

end Sys2Proof.Machine
end

