-- ==== Sys2Proof/Laws/Exec.lean ====
section
/-! SUPPORT. What an instruction can do, said once per channel. -/

namespace Sys2Proof.Machine

/-- An instruction of the P channel is served by the P agent with some response to its operands and the parameters. -/
theorem exec_parser {i : Instr} (hc : i.channel = .P) :
    ∃ r : Config.Params → PResponse, ∀ s, exec i s = serveP s fun s => s.respondP (r s.params) := by
  cases i with
  | template => cases hc
  | encBallast c => cases hc
  | encLight c => cases hc
  | encProp c => cases hc
  | checksum => cases hc
  | lookup id => exact ⟨fun _ => .looked (registry id), fun _ => rfl⟩
  | validate F =>
    exact ⟨fun p => .validated (structuralCheck F).isNone (if p.DIAG_PRESENT then some (diagOf (structuralCheck F)) else none),
      fun _ => rfl⟩
  | decBallast P => exact ⟨fun _ => .decoded (decodeBallast P), fun _ => rfl⟩
  | decLight P => exact ⟨fun _ => .decoded (decodeLight P), fun _ => rfl⟩
  | decProp P => exact ⟨fun _ => .decoded (decodeProp P), fun _ => rfl⟩
  | parse F =>
    exact ⟨fun p => .parsed (parseFrame F) (if p.DIAG_PRESENT then some (diagOf (structuralCheck F)) else none), fun _ => rfl⟩
  | ballastIdle => exact ⟨fun p => .parsed _ (if p.DIAG_PRESENT then some (diagOf (structuralCheck _)) else none), fun _ => rfl⟩
  | ballastIntake => exact ⟨fun p => .parsed _ (if p.DIAG_PRESENT then some (diagOf (structuralCheck _)) else none), fun _ => rfl⟩
  | ballastDischarge =>
    exact ⟨fun p => .parsed _ (if p.DIAG_PRESENT then some (diagOf (structuralCheck _)) else none), fun _ => rfl⟩
  | lightOff => exact ⟨fun p => .parsed _ (if p.DIAG_PRESENT then some (diagOf (structuralCheck _)) else none), fun _ => rfl⟩
  | lightOn => exact ⟨fun p => .parsed _ (if p.DIAG_PRESENT then some (diagOf (structuralCheck _)) else none), fun _ => rfl⟩
  | lightBlink => exact ⟨fun p => .parsed _ (if p.DIAG_PRESENT then some (diagOf (structuralCheck _)) else none), fun _ => rfl⟩
  | propSetThrust v =>
    exact ⟨fun p => .parsed _ (if p.DIAG_PRESENT then some (diagOf (structuralCheck _)) else none), fun _ => rfl⟩

/-- An instruction of the S channel is served by the S agent: it presents a frame, or raises Unimplemented, by its operands
and the parameters. -/
theorem exec_serializer {i : Instr} (hc : i.channel = .S) :
    ∃ r : Config.Params → Except Unimplemented Frame, ∀ s, exec i s = serveS s fun s =>
      match r s.params with
      | .ok F => s.respondS F
      | .error e => s.raiseUnimplemented e := by
  cases i with
  | template => exact ⟨fun _ => .ok templateFrame, fun _ => rfl⟩
  | encBallast c => exact ⟨fun _ => .ok (encodeCommand (.ballast c)), fun _ => rfl⟩
  | encProp c => exact ⟨fun _ => .ok (encodeCommand (.propulsion c)), fun _ => rfl⟩
  | checksum => exact ⟨fun _ => .error .checksum, fun _ => rfl⟩
  | encLight c =>
    refine ⟨fun p => if p.LIGHT_ENCODE_IMPLEMENTED then .ok (encodeCommand (.light c)) else .error .lightEncode, fun s => ?_⟩
    cases h : s.params.LIGHT_ENCODE_IMPLEMENTED <;> simp [exec, execEncLight, serveS, h]
  | lookup id => cases hc
  | validate F => cases hc
  | decBallast P => cases hc
  | decProp P => cases hc
  | decLight P => cases hc
  | parse F => cases hc
  | ballastIdle => cases hc
  | ballastIntake => cases hc
  | ballastDischarge => cases hc
  | lightOff => cases hc
  | lightOn => cases hc
  | lightBlink => cases hc
  | propSetThrust v => cases hc

end Sys2Proof.Machine
end

