-- ==== Sys2Proof/Laws/Frames.lean ====
section
/-! SUPPORT. The encoded frames byte by byte, and frames on the bus. -/

namespace Sys2Proof.Machine

theorem templateFrame_bytes : templateFrame = #v[0x0A, 0x00, 0, 0, 0, 0, 0, 0, 0, 0, 0, 0, 0, 0, 0, 0x0F] := by decide

theorem encodeCommand_ballast (c : BallastCommand) :
    encodeCommand (.ballast c) = #v[0x0A, 0x00, ballastWire c, 0, 0, 0, 0, 0, 0, 0, 0, 0, 0, 0, 0, 0x0F] := by
  simp [encodeCommand, frameWrite, templateFrame, payloadFields, Command.module, moduleId]

theorem encodeCommand_light (c : LightCommand) :
    encodeCommand (.light c) = #v[0x0A, 0x02, lightWire c, 0, 0, 0, 0, 0, 0, 0, 0, 0, 0, 0, 0, 0x0F] := by
  simp [encodeCommand, frameWrite, templateFrame, payloadFields, Command.module, moduleId]

theorem encodeCommand_propulsion (v : DirectionVector) :
    encodeCommand (.propulsion (.setThrust v)) =
      #v[0x0A, 0x01, byteOf v.x 0, byteOf v.x 1, byteOf v.x 2, byteOf v.x 3, byteOf v.y 0, byteOf v.y 1, byteOf v.y 2,
        byteOf v.y 3, 0, 0, 0, 0, 0, 0x0F] := by
  simp [encodeCommand, frameWrite, templateFrame, payloadFields, bytesLe32, Command.module, moduleId]

/-- Bits `8i+7:8i` of a frame's bus value are byte `i`. -/
theorem byteOf_frameToBus (F : Frame) (i : Nat) (hi : i < 16) : byteOf (frameToBus F) i = F[i] := by
  rw [frameToBus, byteOf_packBytes _ _ (by simpa using hi) (by omega)]
  simp

/-- Bits `8j+7:8j` of a payload's bus value are byte `j`. -/
theorem byteOf_payloadToBus (P : Payload) (j : Nat) (hj : j < 12) : byteOf (payloadToBus P) j = P[j] := by
  rw [payloadToBus, byteOf_packBytes _ _ (by simpa using hj) (by omega)]
  simp

end Sys2Proof.Machine
end

