-- ==== Sys2Proof/Laws/PerInstr.lean ====
section
/-! SUPPORT. Per instruction: the encoder presents a well-formed request word (R66, R67), or a frame that spells a command
(R64). -/

namespace Sys2Proof.Machine

theorem pReqWellFormed_pReqWord (op : BitVec 3) (d : BitVec 128) (h6 : op ≠ 6) (h7 : op ≠ 7) :
    pReqWellFormed (pReqWord op d) = true := by
  unfold pReqWellFormed
  rw [pOp_pReqWord, bne_iff_ne.mpr h6, bne_iff_ne.mpr h7]
  rfl

end Sys2Proof.Machine

namespace Sys2Proof.Laws.EncodesWellFormed

open Sys2Proof.Machine

/-- The bits the encoder writes for an instruction are well-formed. -/
def Statement (i : Instr) : Prop := (encode i).wellFormed = true

theorem ballastIdle : Statement .ballastIdle := by unfold Statement; decide
theorem ballastIntake : Statement .ballastIntake := by unfold Statement; decide
theorem ballastDischarge : Statement .ballastDischarge := by unfold Statement; decide
theorem lightOff : Statement .lightOff := by unfold Statement; decide
theorem lightOn : Statement .lightOn := by unfold Statement; decide
theorem lightBlink : Statement .lightBlink := by unfold Statement; decide
theorem template : Statement .template := by unfold Statement; decide
theorem checksum : Statement .checksum := by unfold Statement; decide
theorem encBallast (c : BallastCommand) : Statement (.encBallast c) := by unfold Statement; cases c <;> decide
theorem encLight (c : LightCommand) : Statement (.encLight c) := by unfold Statement; cases c <;> decide
theorem lookup (id : Byte) : Statement (.lookup id) := pReqWellFormed_pReqWord 0 _ (by decide) (by decide)
theorem validate (F : Frame) : Statement (.validate F) := pReqWellFormed_pReqWord 1 _ (by decide) (by decide)
theorem decBallast (P : Payload) : Statement (.decBallast P) := pReqWellFormed_pReqWord 2 _ (by decide) (by decide)
theorem decProp (P : Payload) : Statement (.decProp P) := pReqWellFormed_pReqWord 3 _ (by decide) (by decide)
theorem decLight (P : Payload) : Statement (.decLight P) := pReqWellFormed_pReqWord 4 _ (by decide) (by decide)
theorem parse (F : Frame) : Statement (.parse F) := pReqWellFormed_pReqWord 5 _ (by decide) (by decide)

theorem encProp (c : PropulsionCommand) : Statement (.encProp c) := by
  obtain ⟨x, y⟩ := c
  show sReqWellFormed (sReqWord 1 1 0 x y) = true
  unfold sReqWellFormed
  rw [sOp_sReqWord, sCmdModule_sReqWord, sCmdVariant_sReqWord]
  decide

theorem propSetThrust (v : DirectionVector) : Statement (.propSetThrust v) := by
  show spellsCommand (frameOfBus (frameToBus (encodeCommand (.propulsion (.setThrust v))))) = true
  rw [encodeCommand_propulsion]
  generalize hF : (#v[0x0A, 0x01, byteOf v.x 0, byteOf v.x 1, byteOf v.x 2, byteOf v.x 3, byteOf v.y 0, byteOf v.y 1,
    byteOf v.y 2, byteOf v.y 3, 0, 0, 0, 0, 0, 0x0F] : Frame) = F
  have h0 : byteOf (frameToBus F) 0 = 0x0A := by rw [byteOf_frameToBus F 0 (by omega), ← hF]; rfl
  have h1 : byteOf (frameToBus F) 1 = 0x01 := by rw [byteOf_frameToBus F 1 (by omega), ← hF]; rfl
  have h15 : byteOf (frameToBus F) 15 = 0x0F := by rw [byteOf_frameToBus F 15 (by omega), ← hF]; rfl
  simp [spellsCommand, markersGood, frameOfBus, h0, h1, h15, registry]

end Sys2Proof.Laws.EncodesWellFormed
end

