-- ==== Sys2Proof/Tests/Slice0.lean ====
section
/-! SUPPORT. The model's own tests: well-formedness refuses each ill-formed shape; words written out from the spec's encodings
decode to their instructions; one step on the spec's vectors (V<n>, S<n> and P<n> of 95_test_vectors.md); and a witness for each
statement that has hypotheses. Expected results come from 95_test_vectors.md or by hand from the cited rule. -/

namespace Sys2Proof.Tests

open Sys2Proof.Machine Sys2Proof.Safety

/-! ## Helpers -/

/-- The state an outcome goes on to. -/
def after : Host.Outcome State Fault Refusal → Option State
  | .next t => some t
  | _ => none

/-- The reason an outcome is refused for. -/
def refusal : Host.Outcome State Fault Refusal → Option Refusal
  | .refused why => some why
  | _ => none

/-- The fault an outcome ends in. -/
def faultOf : Host.Outcome State Fault Refusal → Option Fault
  | .fault r => some r
  | _ => none

/-- `s_rsp_frame` after an outcome. -/
def frameOnS (o : Host.Outcome State Fault Refusal) : Option FrameWord := (after o).bind State.sRspFrame

/-- The P channel's fields after an outcome. -/
def portsOnP (o : Host.Outcome State Fault Refusal) : Option PPorts := (after o).bind State.pPorts

/-- FAULT after an outcome. -/
def faultAfter (o : Host.Outcome State Fault Refusal) : Option Bool := (after o).map State.fault

/-- The block after reset, with the Light encoder not implemented. -/
def noLight : State := { State.reset with params := { LIGHT_ENCODE_IMPLEMENTED := false, DIAG_PRESENT := true } }

/-- The faulted block. -/
def faulted : State := { State.reset with fault := true }

/-- One step of `s` in which the host presents `p`. -/
def stepOn (s : State) (p : Presented) : Host.Outcome State Fault Refusal := step (s.present p)

/-- The inputs of a step with a request on each channel. -/
def bothInputs (ws : SReqWord) (wp : PReqWord) (parserFirst : Bool) : Inputs :=
  { rst := false, sReq := some ws, pReq := some (.request wp), parserFirst := parserFirst }

/-- The step inputs with nothing presented. -/
def idleInputs : Inputs := { rst := false, sReq := none, pReq := none, parserFirst := false }

/-! ## Well-formedness: an ill-formed term for each check -/

/-- V83: `s_op = 3`. -/
theorem test_wf_refuses_s_op : sReqWellFormed 3 = false := by decide
/-- V84: `s_cmd_module = 3`. -/
theorem test_wf_refuses_s_module : sReqWellFormed 0x0D = false := by decide
/-- V85, and the same for Light: variant 3. -/
theorem test_wf_refuses_s_variant : sReqWellFormed 0x31 = false ∧ sReqWellFormed 0x39 = false := by decide
/-- V86: Propulsion variants 1, 2, 3. -/
theorem test_wf_refuses_s_prop_variant :
    sReqWellFormed 0x15 = false ∧ sReqWellFormed 0x25 = false ∧ sReqWellFormed 0x35 = false := by decide
/-- V87: `p_op` 6 and 7. -/
theorem test_wf_refuses_p_op : pReqWellFormed 6 = false ∧ pReqWellFormed 7 = false := by decide
/-- R64: V13's and V14's markers, V18's identifier, V68's and V69's state codes. -/
theorem test_wf_frames_that_spell_no_command :
    spellsCommand (frameOfBus 0x0F00000000000000000000000001000B) = false ∧
    spellsCommand (frameOfBus 0x0E00000000000000000000000001000A) = false ∧
    spellsCommand (frameOfBus 0x0F00000000000000000000000000030A) = false ∧
    spellsCommand (frameOfBus 0x0F00000000000000000000000003000A) = false ∧
    spellsCommand (frameOfBus 0x0F00000000000000000000000003020A) = false := by decide
/-- R65: a set checksum byte; a set byte 3 of a Ballast frame (allowed in a Propulsion frame); a set byte 13. -/
theorem test_wf_reserved_bytes :
    reservedZero (frameOfBus 0x0FFF000000000000000000000001020A) = false ∧
    reservedZero (frameOfBus 0x0F00000000000000000000000100000A) = false ∧
    reservedZero (frameOfBus 0x0F00000000000000000000000100010A) = true ∧
    reservedZero (frameOfBus 0x0F00010000000000000000000000010A) = false := by decide
/-- What decodes is well-formed: one word of each kind. -/
theorem test_wf_accepts :
    Presented.wellFormed (.sreq 0x300000000FE0000005) = true ∧ Presented.wellFormed (.preq 5) = true ∧
    Presented.wellFormed (.frame 0x0F00000000000000000000000000000A) = true := by decide

/-! ## Decoding: every constructor from a word written out from the spec -/

/-- 30_encoding.md section 3: the seven command words; V62's frame has set bytes outside the mask. -/
theorem test_decode_command_words :
    decode (.frame 0x0F00000000000000000000000000000A) = .ok .ballastIdle ∧
    decode (.frame 0x0F00000000000000000000000001000A) = .ok .ballastIntake ∧
    decode (.frame 0x0F00000000000000000000000002000A) = .ok .ballastDischarge ∧
    decode (.frame 0x0F00000000000000000000000000020A) = .ok .lightOff ∧
    decode (.frame 0x0F0000000000C00000003F800000020A) = .ok .lightOff ∧
    decode (.frame 0x0F00000000000000000000000001020A) = .ok .lightOn ∧
    decode (.frame 0x0F00000000000000000000000002020A) = .ok .lightBlink ∧
    decode (.frame 0x0F0000000000C00000003F800000010A) =
      .ok (.propSetThrust { x := 0x3F800000, y := 0xC0000000 }) := by decide

/-- R64: the classes at the values where they meet; the first that applies is named (V74 is wrong three ways). -/
theorem test_decode_other_frames :
    decode (.frame 0x0F00000000000000000000000003050B) = .error (.frame .badMarker) ∧
    decode (.frame 0x0E00000000000000000000000001000A) = .error (.frame .badMarker) ∧
    decode (.frame 0x0F00000000000000000000000003030A) = .error (.frame .unknownModule) ∧
    decode (.frame 0x0F0000000000000000000000000AFF0A) = .error (.frame .unknownModule) ∧
    decode (.frame 0x0F00000000000000000000000003000A) = .error (.frame .unknownVariant) ∧
    decode (.frame 0x0F000000000000000000000000FF020A) = .error (.frame .unknownVariant) := by decide

/-- S words: P1, P2, P4, P5 and V88 as written there; ENC.LIGHT On and Blink from the fields of R66. -/
theorem test_decode_sreq :
    decode (.sreq 0x000000000000000000) = .ok .template ∧
    decode (.sreq 0x3FFFFFFFFFFFFFFFFC) = .ok .template ∧
    decode (.sreq 0x000000000000000001) = .ok (.encBallast .idle) ∧
    decode (.sreq 0x000000000000000011) = .ok (.encBallast .intake) ∧
    decode (.sreq 0x000000000000000021) = .ok (.encBallast .discharge) ∧
    decode (.sreq 0x000000000000000009) = .ok (.encLight .on) ∧
    decode (.sreq 0x000000000000000019) = .ok (.encLight .off) ∧
    decode (.sreq 0x000000000000000029) = .ok (.encLight .blink) ∧
    decode (.sreq 0x300000000FE0000005) = .ok (.encProp (.setThrust { x := 0x3F800000, y := 0xC0000000 })) ∧
    decode (.sreq 0x000000000000000002) = .ok .checksum := by decide

/-- P words: the programs' words as written there, V89's set high bits, DEC.LIGHT from the fields of R67. -/
theorem test_decode_preq :
    decode (.preq 0x000000000000000000000000000000008) = .ok (.lookup 0x01) ∧
    decode (.preq 0x000000000000000000000000000000000) = .ok (.lookup 0x00) ∧
    decode (.preq 0x078000000000000000000000000080051) =
      .ok (.validate #v[0x0A, 0x00, 0x01, 0, 0, 0, 0, 0, 0, 0, 0, 0, 0, 0, 0, 0x0F]) ∧
    decode (.preq 0x7FFFFFFF800000000000000000000000A) =
      .ok (.decBallast #v[0x01, 0, 0, 0, 0, 0, 0, 0, 0, 0, 0, 0]) ∧
    decode (.preq 0x000000000000000600000001FC000003) =
      .ok (.decProp #v[0x00, 0x00, 0x80, 0x3F, 0x00, 0x00, 0x00, 0xC0, 0, 0, 0, 0]) ∧
    decode (.preq 0x00000000000000000000000000000001C) =
      .ok (.decLight #v[0x03, 0, 0, 0, 0, 0, 0, 0, 0, 0, 0, 0]) ∧
    decode (.preq 0x078000000000600000001FC0000000855) =
      .ok (.parse #v[0x0A, 0x01, 0, 0, 0x80, 0x3F, 0, 0, 0, 0xC0, 0, 0, 0, 0, 0, 0x0F]) := by decide

/-- V83 to V87: each reserved code is refused by its name. -/
theorem test_decode_rejects_by_name :
    decode (.sreq 3) = .error (.request .reservedOperation) ∧
    decode (.sreq 0x0D) = .error (.request .reservedModule) ∧
    decode (.sreq 0x31) = .error (.request .reservedVariant) ∧
    decode (.sreq 0x39) = .error (.request .reservedVariant) ∧
    decode (.sreq 0x15) = .error (.request .reservedVariant) ∧
    decode (.preq 6) = .error (.request .reservedOperation) ∧
    decode (.preq 7) = .error (.request .reservedOperation) := by decide

/-- The table's words (opcode_table.json): a frame, an S word, a P word; a short word that only PREQ can read. -/
theorem test_decode_table_words :
    decodeTableWord 128 0x0F00000000000000000000000000010A = some (.propSetThrust { x := 0, y := 0 }) ∧
    decodeTableWord 72 2 = some .checksum ∧ decodeTableWord 70 9 = some (.encLight .on) ∧
    decodeTableWord 136 2 = some (.decBallast #v[0, 0, 0, 0, 0, 0, 0, 0, 0, 0, 0, 0]) ∧
    decodeTableWord 8 4 = some (.decLight #v[0, 0, 0, 0, 0, 0, 0, 0, 0, 0, 0, 0]) := by decide

/-! ## One step on the spec's vectors -/

/-- V2, V3, V4: LOOKUP's order is Ballast, Propulsion, Light; 0x03 is the first absent key. -/
theorem test_lookup :
    portsOnP (exec (.lookup 0x01) State.reset) = some { barePorts true 0 with module := some 1 } ∧
    portsOnP (exec (.lookup 0x02) State.reset) = some { barePorts true 0 with module := some 2 } ∧
    portsOnP (exec (.lookup 0x03) State.reset) = some (barePorts false 0) := by decide

/-- V7, V88. -/
theorem test_template :
    frameOnS (stepOn State.reset (.sreq 0x3FFFFFFFFFFFFFFFFC)) = some 0x0F00000000000000000000000000000A := by decide

/-- V17: fail fast, check 2 is not reported. -/
theorem test_validate_fails_fast :
    portsOnP (exec (.validate (frameOfBus 0x0A00000000000000000000000003030F)) State.reset) =
      some { barePorts false 0 with diagCheck := some 1, obsStart := some 0x0F, obsEnd := some 0x0A } := by decide

/-- V18, V20, V21: identifier 3 fails check 2; state code 3, unused bytes and the checksum byte are not read. -/
theorem test_validate_reads_three_bytes :
    portsOnP (exec (.validate (frameOfBus 0x0F00000000000000000000000000030A)) State.reset) =
      some { barePorts false 0 with diagCheck := some 2, obsId := some 0x03 } ∧
    portsOnP (exec (.validate (frameOfBus 0x0F00000000000000000000000003000A)) State.reset) =
      some { barePorts true 0 with diagCheck := some 0 } ∧
    portsOnP (exec (.validate (frameOfBus 0x0F5A07060504030201EFBEADDE01000A)) State.reset) =
      some { barePorts true 0 with diagCheck := some 0 } := by decide

/-- S1 as corrected by 90_conflicts.md C1, V32. -/
theorem test_encBallast :
    frameOnS (exec (.encBallast .intake) State.reset) = some 0x0F00000000000000000000000001000A ∧
    frameOnS (exec (.encBallast .discharge) State.reset) = some 0x0F00000000000000000000000002000A := by decide

/-- V33, V34, V35: the wire codes of Light, On 1, Off 0, Blink 2, from port codes 0, 1, 2. -/
theorem test_encLight :
    frameOnS (stepOn State.reset (.sreq 0x09)) = some 0x0F00000000000000000000000001020A ∧
    frameOnS (stepOn State.reset (.sreq 0x19)) = some 0x0F00000000000000000000000000020A ∧
    frameOnS (stepOn State.reset (.sreq 0x29)) = some 0x0F00000000000000000000000002020A := by decide

/-- V44. -/
theorem test_encLight_unimplemented :
    frameOnS (exec (.encLight .on) noLight) = none ∧ faultAfter (exec (.encLight .on) noLight) = some true := by decide

/-- S2, V39 (a signalling NaN keeps its payload), V41 (the byte-order probe). -/
theorem test_encProp :
    frameOnS (stepOn State.reset (.sreq 0x300000000FE0000005)) = some 0x0F0000000000C00000003F800000010A ∧
    frameOnS (exec (.encProp (.setThrust { x := 0x7FC00000, y := 0x7FA00001 })) State.reset) =
      some 0x0F00000000007FA000017FC00000010A ∧
    frameOnS (exec (.encProp (.setThrust { x := 0x04030201, y := 0x08070605 })) State.reset) =
      some 0x0F00000000000807060504030201010A := by decide

/-- V80. -/
theorem test_checksum :
    faultAfter (exec .checksum State.reset) = some true ∧ frameOnS (exec .checksum State.reset) = none ∧
    (after (exec .checksum State.reset)).map State.raised = some (some .checksum) := by decide

/-- V46a, V46b, S4. -/
theorem test_decBallast :
    portsOnP (exec (.decBallast #v[0x02, 0, 0, 0, 0, 0, 0, 0, 0, 0, 0, 0]) State.reset) =
      some { barePorts true 0 with module := some 0, variant := some 2 } ∧
    portsOnP (exec (.decBallast #v[0x01, 0xDE, 0xAD, 0xBE, 0xEF, 1, 2, 3, 4, 5, 6, 7]) State.reset) =
      some { barePorts true 0 with module := some 0, variant := some 1 } ∧
    portsOnP (exec (.decBallast #v[0x03, 0, 0, 0, 0, 0, 0, 0, 0, 0, 0, 0]) State.reset) = some (barePorts false 2) := by
  decide

/-- V47, V56, V50: wire 0 is Off, port code 1; the parameter does not matter. -/
theorem test_decLight :
    portsOnP (exec (.decLight #v[0x00, 0, 0, 0, 0, 0, 0, 0, 0, 0, 0, 0]) State.reset) =
      some { barePorts true 0 with module := some 2, variant := some 1 } ∧
    portsOnP (exec (.decLight #v[0x01, 0, 0, 0, 0, 0, 0, 0, 0, 0, 0, 0]) noLight) =
      some { barePorts true 0 with module := some 2, variant := some 0 } ∧
    portsOnP (exec (.decLight #v[0x03, 0, 0, 0, 0, 0, 0, 0, 0, 0, 0, 0]) State.reset) = some (barePorts false 2) := by
  decide

/-- V52, V54. -/
theorem test_decProp :
    portsOnP (exec (.decProp #v[0, 0, 0x80, 0x3F, 0, 0, 0, 0xC0, 0xAA, 0xBB, 0xCC, 0xDD]) State.reset) =
      some { barePorts true 0 with module := some 1, variant := some 0, x := some 0x3F800000, y := some 0xC0000000 } ∧
    portsOnP (exec (.decProp #v[0x03, 0, 0, 0, 0, 0, 0, 0, 0, 0, 0, 0]) State.reset) =
      some { barePorts true 0 with module := some 1, variant := some 0, x := some 3, y := some 0 } := by decide

/-- V61, V64. -/
theorem test_parse_ok :
    portsOnP (exec (.parse (frameOfBus 0x0FFF000000000000000000000001020A)) State.reset) =
      some { barePorts true 0 with module := some 2, variant := some 0, diagCheck := some 0 } ∧
    portsOnP (exec (.parse (frameOfBus 0x0FEEDDCCBBAAC00000003F800000010A)) State.reset) =
      some { barePorts true 0 with module := some 1, variant := some 0, x := some 0x3F800000, y := some 0xC0000000,
                                   diagCheck := some 0 } := by decide

/-- V68, V73, V74: the one error reported is the first. -/
theorem test_parse_errors :
    portsOnP (exec (.parse (frameOfBus 0x0F00000000000000000000000003000A)) State.reset) =
      some { barePorts false 2 with diagCheck := some 0 } ∧
    portsOnP (exec (.parse (frameOfBus 0x0F00000000000000000000000000050A)) State.reset) =
      some { barePorts false 1 with diagCheck := some 2, obsId := some 0x05 } ∧
    portsOnP (exec (.parse (frameOfBus 0x0F00000000000000000000000003050B)) State.reset) =
      some { barePorts false 1 with diagCheck := some 1, obsStart := some 0x0B, obsEnd := some 0x0F } := by decide

/-- R57, R60 as received frames: Ballast Idle, and Light Off with port code 1. -/
theorem test_command_words_state :
    portsOnP (stepOn State.reset (.frame 0x0F00000000000000000000000000000A)) =
      some { barePorts true 0 with module := some 0, variant := some 0, diagCheck := some 0 } ∧
    portsOnP (stepOn State.reset (.frame 0x0F00000000000000000000000000020A)) =
      some { barePorts true 0 with module := some 2, variant := some 1, diagCheck := some 0 } := by decide

/-- V66 as a received frame: markers inside the payload are data. -/
theorem test_command_word_vector :
    portsOnP (stepOn State.reset (.frame 0x0F00000000000A0F0A0F0F0A0F0A010A)) =
      some { barePorts true 0 with module := some 1, variant := some 0, x := some 0x0F0A0F0A, y := some 0x0A0F0A0F,
                                   diagCheck := some 0 } := by decide

/-- V81, V82: the faulted block is stuck and answers nothing; `rst` recovers it and drops the step's request. -/
theorem test_faulted_and_reset :
    faultOf (stepOn faulted (.sreq 0)) = some (.stuck faulted) ∧ faultOf (stepOn faulted (.preq 0)) = some (.stuck faulted) ∧
    faultOf (step faulted) = some (.stuck faulted) ∧
    after (step { faulted with inputs := [{ bothInputs 0 0 false with rst := true }] }) = some State.reset := by decide

/-- V83, V87: the step is refused under the name of the channel and the reserved field. -/
theorem test_step_refusals :
    refusal (stepOn State.reset (.sreq 3)) = some (.illFormedSRequest .reservedOperation) ∧
    refusal (stepOn State.reset (.preq 7)) = some (.illFormedPRequest .reservedOperation) := by decide

/-- P2 step 1: both channels in one step, in either order. -/
theorem test_both_channels :
    frameOnS (step { State.reset with inputs := [bothInputs 0x300000000FE0000005 8 false] }) =
      some 0x0F0000000000C00000003F800000010A ∧
    portsOnP (step { State.reset with inputs := [bothInputs 0x300000000FE0000005 8 false] }) =
      some { barePorts true 0 with module := some 1 } ∧
    after (step { State.reset with inputs := [bothInputs 0x300000000FE0000005 8 true] }) =
      after (step { State.reset with inputs := [bothInputs 0x300000000FE0000005 8 false] }) := by decide

/-- P5 step 2 as a placed table word, V80: CHECKSUM after reset ends in its fault, and the block is left with FAULT 1. -/
theorem test_withFetchWord :
    faultOf (step (State.reset.withFetchWord 72 2)) = some (.unimplemented .checksum faulted) := by decide

/-- V44, as the outcome of the step. -/
theorem test_encLight_step_faults :
    faultOf (stepOn noLight (.sreq 9)) = some (.unimplemented .lightEncode { noLight with fault := true }) := by decide

/-! ## Witnesses: each statement's hypotheses are met together

`test_witness_<Name>` is for `Obligations.<Name>`. Where the statement's clauses share one input, the witness gives one value for
each clause, at the edge of its range. -/

/-- The row of BALLAST.INTAKE. -/
def intakeRow : CommandRow :=
  { pattern := 0x0F00000000000000000000000001000A, mask := stateMask, instr := fun _ => .ballastIntake }

theorem test_witness_CommandPatternsDisjoint :
    ∃ w r r', r ∈ commandRows ∧ r' ∈ commandRows ∧ rowMatches w r = true ∧ rowMatches w r' = true :=
  ⟨0x0F5A07060504030201EFBEADDE01000A, intakeRow, intakeRow, by simp [commandRows, intakeRow],
    by simp [commandRows, intakeRow], by decide, by decide⟩

/-- Bits 5:0 agree and the rest does not (V88 for TEMPLATE; ENC.BALLAST Intake; LOOKUP 1; V89 for DEC.BALLAST). -/
theorem test_witness_UnreadRequestFieldsChangeNothing :
    ((0 : SReqWord).extractLsb' 0 2 = (0x3FFFFFFFFFFFFFFFFC : SReqWord).extractLsb' 0 2 ∧ (0 : SReqWord).extractLsb' 0 2 ≠ 1) ∧
    ((0x11 : SReqWord).extractLsb' 0 6 = (0x3FFFFFFFFFFFFFFFD1 : SReqWord).extractLsb' 0 6 ∧
      (0x11 : SReqWord).extractLsb' 0 2 = 1 ∧ (0x11 : SReqWord).extractLsb' 2 2 ≠ 1) ∧
    ((8 : PReqWord).extractLsb' 0 11 = (0x808 : PReqWord).extractLsb' 0 11 ∧ (8 : PReqWord).extractLsb' 0 3 = 0) ∧
    ((0xA : PReqWord).extractLsb' 0 99 = (0x7FFFFFFF800000000000000000000000A : PReqWord).extractLsb' 0 99 ∧
      (0xA : PReqWord).extractLsb' 0 3 = 2) := by decide

theorem test_witness_BusMapsAreInverse : 15 < 16 ∧ (frameOfBus 0x0F00000000000000000000000000000A)[15] = 0x0F := by decide

/-- R34 on S2's pair, both ways. -/
theorem test_witness_ComponentsAreLittleEndianBothWays : State.reset.fault = false ∧
    frameOnS (exec (.encProp (.setThrust { x := 0x3F800000, y := 0xC0000000 })) State.reset) =
      some 0x0F0000000000C00000003F800000010A := by decide

/-- Every clause of the answer: 0, 1, 2, the first absent key 3, and 0xFF. -/
theorem test_witness_LookupAnswersTheRegistry : State.reset.fault = false ∧ (8 : PReqWord).extractLsb' 0 3 = 0 ∧
    registry 0x00 = some .ballast ∧ registry 0x01 = some .propulsion ∧ registry 0x02 = some .light ∧
    registry 0x03 = none ∧ registry 0xFF = none := by decide

theorem test_witness_RegistryIsInjectiveOnThreeKeys :
    State.reset.fault = false ∧ registry 0x02 = some .light ∧ registry (moduleId .light) = some .light := by decide

theorem test_witness_TemplateAnswersTheConstantFrame :
    State.reset.fault = false ∧ (0x3FFFFFFFFFFFFFFFFC : SReqWord).extractLsb' 0 2 = 0 := by decide

theorem test_witness_TemplateIsTheBallastIdleFrame : State.reset.fault = false ∧ noLight.fault = false := by decide

/-- One frame for each clause: V13, V14 (either marker), V18 and V12 (identifiers 3 and 2). -/
theorem test_witness_ValidateChecksMarkersThenModule :
    State.reset.fault = false ∧ (0x51 : PReqWord).extractLsb' 0 3 = 1 ∧
    (frameOfBus 0x0F00000000000000000000000001000B)[0] ≠ 0x0A ∧ (frameOfBus 0x0E00000000000000000000000001000A)[15] ≠ 0x0F ∧
    structuralCheck (frameOfBus 0x0F00000000000000000000000000030A) = some (.unknownModule 3) ∧
    structuralCheck (frameOfBus 0x0F00000000000000000000000002020A) = none := by decide

/-- V10 and V21 differ only in bytes VALIDATE does not read. -/
theorem test_witness_ValidateIgnoresPayloadAndChecksum :
    let F := frameOfBus 0x0F00000000000000000000000001000A
    let G := frameOfBus 0x0F5A07060504030201EFBEADDE01000A
    F ≠ G ∧ F[0] = G[0] ∧ F[1] = G[1] ∧ F[15] = G[15] := by decide

theorem test_witness_DiagnosticIsAdvisory :
    ∃ t t', exec (.validate templateFrame) State.reset = .next t ∧
      exec (.validate templateFrame)
        { State.reset with params := { LIGHT_ENCODE_IMPLEMENTED := true, DIAG_PRESENT := false } } = .next t' ∧ t ≠ t' :=
  ⟨_, _, rfl, rfl, by decide⟩

/-- The three codes and the reserved one, as S words. -/
theorem test_witness_EncBallastFrames : State.reset.fault = false ∧
    ((0x01 : SReqWord).extractLsb' 0 2 = 1 ∧ (0x01 : SReqWord).extractLsb' 2 2 = 0) ∧
    ((0x11 : SReqWord).extractLsb' 0 2 = 1 ∧ (0x11 : SReqWord).extractLsb' 2 2 = 0) ∧
    ((0x21 : SReqWord).extractLsb' 0 2 = 1 ∧ (0x21 : SReqWord).extractLsb' 2 2 = 0) ∧
    ((0x31 : SReqWord).extractLsb' 0 2 = 1 ∧ (0x31 : SReqWord).extractLsb' 2 2 = 0) ∧
    (0x31 : SReqWord).extractLsb' 4 2 = 3 := by decide

/-- The three codes and the reserved one, as S words; both values of the parameter. -/
theorem test_witness_EncLightFramesOrFault :
    ((0x09 : SReqWord).extractLsb' 0 2 = 1 ∧ (0x09 : SReqWord).extractLsb' 2 2 = 2) ∧
    ((0x19 : SReqWord).extractLsb' 0 2 = 1 ∧ (0x19 : SReqWord).extractLsb' 2 2 = 2) ∧
    ((0x29 : SReqWord).extractLsb' 0 2 = 1 ∧ (0x29 : SReqWord).extractLsb' 2 2 = 2) ∧
    ((0x39 : SReqWord).extractLsb' 0 2 = 1 ∧ (0x39 : SReqWord).extractLsb' 2 2 = 2) ∧
    (State.reset.fault = false ∧ State.reset.params.LIGHT_ENCODE_IMPLEMENTED = true) ∧
    (noLight.fault = false ∧ noLight.params.LIGHT_ENCODE_IMPLEMENTED = false) := by decide

theorem test_witness_EncPropFrame : State.reset.fault = false ∧
    (0x300000000FE0000005 : SReqWord).extractLsb' 0 2 = 1 ∧ (0x300000000FE0000005 : SReqWord).extractLsb' 2 2 = 1 ∧
    (0x300000000FE0000005 : SReqWord).extractLsb' 4 2 = 0 := by decide

theorem test_witness_ChecksumAlwaysSetsFault :
    State.reset.fault = false ∧ (0x3FFFFFFFFFFFFFFFFE : SReqWord).extractLsb' 0 2 = 2 := by decide

theorem test_witness_EncodedFrameShape :
    State.reset.fault = false ∧ Command.module (.light .on) = .light ∧
    State.reset.params.LIGHT_ENCODE_IMPLEMENTED = true ∧ Command.module (.ballast .idle) ≠ .propulsion := by decide

theorem test_witness_EncodedFramesAreValid :
    ∃ t F, State.reset.fault = false ∧ exec (encodeInstr (.light .on)) State.reset = .next t ∧ t.sRsp = some F :=
  ⟨_, _, rfl, rfl, rfl⟩

/-- S4's word, and each clause of the answer: 0, 1, 2, the first other byte 3. -/
theorem test_witness_DecBallastAnswersByStateCode : State.reset.fault = false ∧ (0x1A : PReqWord).extractLsb' 0 3 = 2 ∧
    ballastOfWire 0 = some .idle ∧ ballastOfWire 1 = some .intake ∧ ballastOfWire 2 = some .discharge ∧
    ballastOfWire 3 = none := by decide

theorem test_witness_DecLightAnswersByStateCode : noLight.fault = false ∧ (0x1C : PReqWord).extractLsb' 0 3 = 4 ∧
    lightOfWire 0 = some .off ∧ lightOfWire 1 = some .on ∧ lightOfWire 2 = some .blink ∧ lightOfWire 3 = none := by decide

theorem test_witness_DecPropIsTotal :
    State.reset.fault = false ∧ (0x000000000000000600000001FC000003 : PReqWord).extractLsb' 0 3 = 3 := by decide

/-- A frame for each clause: V71, V60, V68, V64, V61, V69, V73 by their answers. -/
theorem test_witness_ParseChecksThenDecodes : State.reset.fault = false ∧ (0x5D : PReqWord).extractLsb' 0 3 = 5 ∧
    parseFrame (frameOfBus 0x0F00000000000000000000000001000B) = .structuralError (.markerMismatch 0x0B 0x0F) ∧
    parseFrame (frameOfBus 0x0F00000000000000000000000001000A) = .ok (.ballast .intake) ∧
    parseFrame (frameOfBus 0x0F00000000000000000000000003000A) =
      .decodeError { module := .ballast, discriminant := 3 } ∧
    parseFrame (frameOfBus 0x0FEEDDCCBBAAC00000003F800000010A) =
      .ok (.propulsion (.setThrust { x := 0x3F800000, y := 0xC0000000 })) ∧
    parseFrame (frameOfBus 0x0FFF000000000000000000000001020A) = .ok (.light .on) ∧
    parseFrame (frameOfBus 0x0F00000000000000000000000003020A) = .decodeError { module := .light, discriminant := 3 } ∧
    parseFrame (frameOfBus 0x0F00000000000000000000000000050A) = .structuralError (.unknownModule 5) := by decide

/-- V71, V68 and V65 at the port, and V61 where the diagnostic is dropped. -/
theorem test_witness_PortsShowTheParseAnswer : State.reset.fault = false ∧
    portsOnP (exec (.parse (frameOfBus 0x0F00000000000000000000000001000B)) State.reset) =
      some { barePorts false 1 with diagCheck := some 1, obsStart := some 0x0B, obsEnd := some 0x0F } ∧
    portsOnP (exec (.parse (frameOfBus 0x0F00000000000000000000000003000A)) State.reset) =
      some { barePorts false 2 with diagCheck := some 0 } ∧
    portsOnP (exec (.parse (frameOfBus 0x0FFFFFFFFFFFFFFFFFFFFFFFFFFF010A)) State.reset) =
      some { barePorts true 0 with module := some 1, variant := some 0, x := some 0xFFFFFFFF, y := some 0xFFFFFFFF,
                                   diagCheck := some 0 } ∧
    portsOnP (exec (.parse (frameOfBus 0x0FFF000000000000000000000001020A))
        { State.reset with params := { LIGHT_ENCODE_IMPLEMENTED := true, DIAG_PRESENT := false } }) =
      some { barePorts true 0 with module := some 2, variant := some 0 } := by decide

theorem test_witness_ParseAndValidateAgree :
    ∃ tv tp valid dv dp r, State.reset.fault = false ∧ exec (.validate templateFrame) State.reset = .next tv ∧
      tv.pRsp = some (.validated valid dv) ∧ exec (.parse templateFrame) State.reset = .next tp ∧
      tp.pRsp = some (.parsed r dp) :=
  ⟨_, _, _, _, _, _, rfl, rfl, rfl, rfl, rfl⟩

/-- With Light implemented any command will do; without it, one of another module. -/
theorem test_witness_DecodeOfEncodedCommandRoundTrips :
    (State.reset.fault = false ∧ State.reset.params.LIGHT_ENCODE_IMPLEMENTED = true) ∧
    (noLight.fault = false ∧ Command.module (.ballast .intake) ≠ .light) := by decide

theorem test_witness_EncodedFrameIsTheOneWithReservedBytesZero :
    ∃ F : Frame, State.reset.fault = false ∧ F ≠ encodeCommand (.light .on) ∧
      exec (.parse F) State.reset =
        .next { State.reset with pRsp := some (.parsed (.ok (.light .on)) (shown State.reset.params .passed)) } ∧
      State.reset.params.LIGHT_ENCODE_IMPLEMENTED = true :=
  ⟨#v[0x0A, 0x02, 0x01, 0, 0, 0, 0, 0, 0, 0, 0, 0, 0, 0, 0xFF, 0x0F], rfl, by decide, rfl, rfl⟩

/-- V60 and V21 (Ballast), V51's frame and V64 (Propulsion), V46 and V46b, V51 and V52. -/
theorem test_witness_ReservedBytesChangeNoResult :
    (let F := frameOfBus 0x0F00000000000000000000000001000A
     let G := frameOfBus 0x0F5A07060504030201EFBEADDE01000A
     F ≠ G ∧ F[0] = G[0] ∧ F[1] = G[1] ∧ F[15] = G[15] ∧ F[2] = G[2] ∧ F[1] ≠ 0x01) ∧
    (let F := frameOfBus 0x0F0000000000C00000003F800000010A
     let G := frameOfBus 0x0FEEDDCCBBAAC00000003F800000010A
     F ≠ G ∧ F[0] = G[0] ∧ F[1] = G[1] ∧ F[15] = G[15] ∧ F[2] = G[2] ∧ F[1] = 0x01 ∧
       F[3] = G[3] ∧ F[4] = G[4] ∧ F[5] = G[5] ∧ F[6] = G[6] ∧ F[7] = G[7] ∧ F[8] = G[8] ∧ F[9] = G[9]) ∧
    (let P : Payload := #v[0x01, 0, 0, 0, 0, 0, 0, 0, 0, 0, 0, 0]
     let Q : Payload := #v[0x01, 0xDE, 0xAD, 0xBE, 0xEF, 1, 2, 3, 4, 5, 6, 7]
     P ≠ Q ∧ P[0] = Q[0]) ∧
    (let P : Payload := #v[0, 0, 0x80, 0x3F, 0, 0, 0, 0xC0, 0, 0, 0, 0]
     let Q : Payload := #v[0, 0, 0x80, 0x3F, 0, 0, 0, 0xC0, 0xAA, 0xBB, 0xCC, 0xDD]
     P ≠ Q ∧ P[0] = Q[0] ∧ P[1] = Q[1] ∧ P[2] = Q[2] ∧ P[3] = Q[3] ∧ P[4] = Q[4] ∧ P[5] = Q[5] ∧ P[6] = Q[6] ∧
       P[7] = Q[7]) := by decide

theorem test_witness_MatchedDecodeAgreesWithParse :
    ∃ F P td tp r r' d, State.reset.fault = false ∧ matchedDecode F .light P ∧
      exec (decodeInstr .light P) State.reset = .next td ∧ td.pRsp = some (.decoded r) ∧
      exec (.parse F) State.reset = .next tp ∧ tp.pRsp = some (.parsed r' d) :=
  ⟨#v[0x0A, 0x02, 0x01, 0, 0, 0, 0, 0, 0, 0, 0, 0, 0, 0, 0xFF, 0x0F],
    #v[0x01, 0, 0, 0, 0, 0, 0, 0, 0, 0, 0, 0], _, _, _, _, _,
    rfl, ⟨by decide, by decide, rfl⟩, rfl, rfl, rfl, rfl⟩

theorem test_witness_CommandWordsAnswerTheirCommand : State.reset.fault = false ∧ noLight.fault = false := by decide

/-- A frame word of each class. -/
theorem test_witness_CommandTableAgreesWithParser :
    decodeFrame 0x0FFF000000000000000000000001020A = .ok .lightOn ∧
    decodeFrame 0x0E00000000000000000000000001000A = .error .badMarker ∧
    decodeFrame 0x0F00000000000000000000000001030A = .error .unknownModule ∧
    decodeFrame 0x0F00000000000000000000000003000A = .error .unknownVariant := by decide

theorem test_witness_StateCodesOnWireAndPort : 3 ≤ (0x03 : Byte).toNat ∧ 3 ≤ (0xFF : Byte).toNat := by decide

theorem test_witness_FaultedBlockServesNothing : faulted.fault = true ∧ Instr.channel .template = .S ∧
    Instr.channel (.lookup 0) = .P := by decide

/-- A state in which some instruction sets FAULT and some does not. -/
theorem test_witness_OnlyChecksumAndUnimplementedLightSetFault : noLight.fault = false ∧
    faultAfter (exec (.encLight .off) noLight) = some true ∧ faultAfter (exec .template noLight) = some false := by decide

theorem test_witness_InstructionsChangeOnlyTheirChannel :
    (∃ t, exec (.lookup 0) State.reset = .next t ∧ Instr.channel (.lookup 0) = .P) ∧
    (∃ t, exec .template State.reset = .next t ∧ Instr.channel .template = .S ∧ t.fault = State.reset.fault) ∧
    (∃ t, exec .checksum State.reset = .next t ∧ t.fault ≠ State.reset.fault) :=
  ⟨⟨_, rfl, rfl⟩, ⟨_, rfl, rfl, rfl⟩, ⟨_, rfl, by decide⟩⟩

theorem test_witness_RstPutsTheInitialState :
    ({ faulted with inputs := [{ bothInputs 0 0 true with rst := true }] } : State).inputs =
      { bothInputs 0 0 true with rst := true } :: [] ∧ ({ bothInputs 0 0 true with rst := true } : Inputs).rst = true := by
  decide

theorem test_witness_OnlyResetClearsFault :
    faulted.fault = true ∧ (∀ inp, (faulted.present (.sreq 0)).inputs.head? = some inp → inp.rst = false) ∧
      refusal (stepOn faulted (.sreq 3)) = some (.illFormedSRequest .reservedOperation) :=
  ⟨rfl, fun inp h => by cases h; rfl, by decide⟩

/-- One request of each kind. -/
theorem test_witness_StepRunsTheDecodedInstruction :
    (State.reset.present (.sreq 2)).inputs = inputsOf (.sreq 2) :: [] ∧ (inputsOf (.sreq 2)).rst = false ∧
    (((inputsOf (.sreq 2)).sReq = some 2 ∧ decode (.sreq 2) = .ok .checksum) ∧ (inputsOf (.sreq 2)).pReq = none) ∧
    ((inputsOf (.preq 8)).sReq = none ∧ (inputsOf (.preq 8)).pReq = some (.request 8) ∧
      decode (.preq 8) = .ok (.lookup 1)) ∧
    ((inputsOf (.frame 0x0F00000000000000000000000000000A)).sReq = none ∧
      (inputsOf (.frame 0x0F00000000000000000000000000000A)).pReq = some (.frame 0x0F00000000000000000000000000000A) ∧
      decode (.frame 0x0F00000000000000000000000000000A) = .ok .ballastIdle) := by decide

theorem test_witness_StepParsesFramesThatSpellNoCommand :
    (State.reset.present (.frame 0)).inputs = inputsOf (.frame 0) :: [] ∧ (inputsOf (.frame 0)).rst = false ∧
    (inputsOf (.frame 0)).sReq = none ∧ (inputsOf (.frame 0)).pReq = some (.frame 0) ∧
    decode (.frame 0) = .error (.frame .badMarker) := by decide

/-- The S request beside a request word, beside a frame that spells a command, and beside one that spells none. -/
theorem test_witness_StepRunsBothRequests :
    (bothInputs 0x11 8 true).rst = false ∧ (bothInputs 0x11 8 true).sReq = some 0x11 ∧
    (bothInputs 0x11 8 true).pReq = some (.request 8) ∧ decode (.sreq 0x11) = .ok (.encBallast .intake) ∧
    asksP (.request 8) (.lookup 1) ∧ asksP (.frame 0x0F00000000000000000000000000000A) .ballastIdle ∧
    asksP (.frame 0) (.parse (frameOfBus 0)) :=
  ⟨rfl, rfl, rfl, rfl, rfl, .inl (by decide), .inr ⟨⟨.frame .badMarker, by decide⟩, rfl⟩⟩

/-- ENC.BALLAST Intake beside a frame that spells no command: both are answered. -/
theorem test_both_channels_frame :
    let o := step { State.reset with inputs := [{ bothInputs 0x11 8 true with pReq := some (.frame 0) }] }
    frameOnS o = some 0x0F00000000000000000000000001000A ∧
    portsOnP o = some { barePorts false 1 with diagCheck := some 1, obsStart := some 0, obsEnd := some 0 } := by decide

/-- A running block with an S instruction that does not fault, and the faulted block with one that would. -/
theorem test_witness_SerializerAndParserCommute :
    (∃ ti tj, Instr.channel (.encLight .on) = .S ∧ Instr.channel (.lookup 1) = .P ∧
      (Instr.encLight .on ≠ .checksum ∧ State.reset.params.LIGHT_ENCODE_IMPLEMENTED = true) ∧
      exec (.encLight .on) State.reset = .next ti ∧ exec (.lookup 1) State.reset = .next tj) ∧
    (∃ ti tj, faulted.fault ≠ false ∧ exec .checksum faulted = .next ti ∧ exec (.lookup 1) faulted = .next tj) :=
  ⟨⟨_, _, rfl, rfl, ⟨by decide, rfl⟩, rfl, rfl⟩, ⟨_, _, by decide, rfl, rfl⟩⟩

/-- CHECKSUM, and ENC.LIGHT On where it is not implemented, each beside a P request. -/
theorem test_witness_BothOrdersWhenTheSerializerFaults :
    (State.reset.fault = false ∧ decode (.sreq 2) = .ok .checksum ∧ asksP (.request 8) (.lookup 1)) ∧
    (noLight.fault = false ∧ noLight.params.LIGHT_ENCODE_IMPLEMENTED = false ∧ decode (.sreq 9) = .ok (.encLight .on) ∧
      asksP (.frame 0x0F00000000000000000000000000000A) .ballastIdle) :=
  ⟨⟨rfl, rfl, rfl⟩, rfl, rfl, rfl, .inl (by decide)⟩

/-- The same two instructions in the step they fault in, alone and beside a P request. -/
theorem test_witness_StepFaultsOnUnimplemented :
    (State.reset.fault = false ∧ (inputsOf (.sreq 2)).sReq = some 2 ∧ decode (.sreq 2) = .ok .checksum ∧
      (inputsOf (.sreq 2)).rst = false ∧ (inputsOf (.sreq 2)).pReq = none) ∧
    (noLight.fault = false ∧ noLight.params.LIGHT_ENCODE_IMPLEMENTED = false ∧ decode (.sreq 9) = .ok (.encLight .on) ∧
      (bothInputs 9 8 false).sReq = some 9 ∧ (bothInputs 9 8 false).rst = false ∧
      (bothInputs 9 8 false).pReq = some (.request 8) ∧ asksP (.request 8) (.lookup 1)) :=
  ⟨⟨rfl, rfl, rfl, rfl, rfl⟩, rfl, rfl, rfl, rfl, rfl, rfl, rfl⟩

/-- Steps that end in each kind of fault. -/
theorem test_witness_OnlyUnimplementedAndFaultedBlocksFault :
    step (State.reset.present (.sreq 2)) = .fault (.unimplemented .checksum faulted) ∧ step faulted = .fault (.stuck faulted) :=
  ⟨rfl, rfl⟩

/-- A step and a run of two that go on. -/
theorem test_witness_FaultedStatesAreNeverFinal :
    (∃ t, step (State.reset.present (.sreq 0)) = .next t) ∧
    ∃ t, State.reset.fault = false ∧
      Sys2Proof.core.run 2 ((State.reset.present (.preq 8)).present (.sreq 0)) = .next t :=
  ⟨⟨_, rfl⟩, _, rfl, rfl⟩

/-- P5 steps 2 and 5. -/
theorem test_witness_RstRecoversFromAFault :
    ∃ r, step (State.reset.present (.sreq 2)) = .fault r ∧ ({ idleInputs with rst := true } : Inputs).rst = true :=
  ⟨_, rfl, rfl⟩

/-- One state for each clause. -/
theorem test_witness_OutcomeOfAFaultedStateIsAFault :
    State.reset.fault = false ∧ (State.reset.raiseUnimplemented .checksum).fault = true ∧
    (State.reset.raiseUnimplemented .checksum).raised = some .checksum ∧ faulted.fault = true ∧ faulted.raised = none := by
  decide

/-- Both sides of the equivalence are met: V83 and V87 are refused; an idle step and a reset over V83 are not. -/
theorem test_witness_StepRefusesExactlyIllFormedRequests :
    refusal (stepOn State.reset (.sreq 3)) ≠ none ∧ refusal (stepOn faulted (.preq 6)) ≠ none ∧
    after (step { State.reset with inputs := [idleInputs] }) ≠ none ∧
    after (step { State.reset with inputs := [{ bothInputs 3 6 false with rst := true }] }) ≠ none := by decide

theorem test_witness_IdleStepOnlyWaits : State.reset.fault = false ∧ State.reset.inputs = [] ∧
    ({ State.reset with inputs := [idleInputs] } : State).inputs = idleInputs :: [] ∧ idleInputs.rst = false ∧
    idleInputs.sReq = none ∧ idleInputs.pReq = none := by decide

/-- Two states that differ in the responses an earlier step left. -/
theorem test_witness_ResponsesDependOnTheRequestOnly :
    let t : State := { State.reset with sRsp := some templateFrame, pRsp := some (.looked none) }
    t ≠ State.reset ∧ State.reset.fault = t.fault ∧ State.reset.params = t.params ∧ State.reset.inputs = t.inputs := by
  decide

theorem test_witness_ParametersNeverChange :
    (∃ t, step (noLight.present (.sreq 0)) = .next t) ∧ ∃ r, step (noLight.present (.sreq 9)) = .fault r :=
  ⟨⟨_, rfl⟩, _, rfl⟩

/-- From a state that shows responses, through a step that gives others and through one that faults. -/
theorem test_witness_OutputsStayLegal :
    let s : State := { State.reset with sRsp := some templateFrame, pRsp := some (.looked none) }
    outputsLegal (s.present (.frame 0)) = true ∧ (∃ t, step (s.present (.frame 0)) = .next t) ∧
    outputsLegal (s.present (.sreq 2)) = true ∧ ∃ r, step (s.present (.sreq 2)) = .fault r :=
  ⟨by decide, ⟨_, rfl⟩, by decide, _, rfl⟩

/-- A host that presents P2's two requests, then V60's frame, then nothing. -/
theorem test_witness_DutifulHostGetsAGoodRun :
    let s : State := { State.reset with
      inputs := [bothInputs 0x300000000FE0000005 8 true, inputsOf (.frame 0x0F00000000000000000000000001000A), idleInputs] }
    s.fault = false ∧ (∀ inp ∈ s.inputs, dutiful s.params inp = true) ∧ dutiful noLight.params (inputsOf (.sreq 9)) = false := by
  decide

theorem test_witness_PlacedTableWordRunsNext : decodeTableWord 72 2 = some .checksum ∧
    decodeTableWord 128 0x0F00000000000000000000000000000A = some .ballastIdle := by decide

end Sys2Proof.Tests
end

section
/-! PROOFS. The memory rules (spec 20_memory.md): components of a VEC payload are little-endian, written and read (R34). -/

namespace Sys2Proof.Machine

/-- The number a byte of a word stands for. -/
theorem toNat_byteOf {n : Nat} (w : BitVec n) (i : Nat) : (byteOf w i).toNat = w.toNat / 2 ^ (8 * i) % 256 := by
  simp [byteOf, Nat.shiftRight_eq_div_pow]

/-- A 32-bit pattern is the number its four bytes spell, least significant first. -/
theorem toNat_eq_sum_byteOf (w : W32) :
    w.toNat = (byteOf w 0).toNat + 256 * (byteOf w 1).toNat + 65536 * (byteOf w 2).toNat +
      16777216 * (byteOf w 3).toNat := by
  have hw : w.toNat < 4294967296 := w.isLt
  simp only [toNat_byteOf]
  omega

/-- `le32` reads its bytes as a little-endian number (R8). -/
theorem toNat_le32 (a b c d : Byte) :
    (le32 a b c d).toNat = a.toNat + 256 * b.toNat + 65536 * c.toNat + 16777216 * d.toNat := by
  rw [toNat_eq_sum_byteOf, byteOf_le32_0, byteOf_le32_1, byteOf_le32_2, byteOf_le32_3]

/-- With FAULT 0 ENC.PROP presents the encoded frame and changes nothing else (R103). -/
theorem exec_encProp_running (c : PropulsionCommand) {s : State} (hs : s.fault = false) :
    exec (.encProp c) s = .next { s with sRsp := some (encodeCommand (.propulsion c)) } :=
  serveS_running (act := (·.respondS (encodeCommand (.propulsion c)))) hs

/-- With FAULT 0 DEC.PROP answers the vector of its payload and changes nothing else (R118). -/
theorem exec_decProp_running (P : Payload) {s : State} (hs : s.fault = false) :
    exec (.decProp P) s =
      .next { s with pRsp := some (.decoded (.ok (.propulsion (.setThrust (vectorOf P))))) } :=
  serveP_running (act := (·.respondP (.decoded (decodeProp P)))) hs

/-- Settles O8: the encoded frame byte by byte, and `le32` as a sum of its bytes for the way back. -/
theorem componentsAreLittleEndianBothWays : Obligations.ComponentsAreLittleEndianBothWays := by
  unfold Obligations.ComponentsAreLittleEndianBothWays
  constructor
  · intro v s hs
    refine ⟨_, exec_encProp_running (.setThrust v) hs, ?_⟩
    simp only [encodeCommand_propulsion]
    exact ⟨rfl, rfl, rfl, rfl, rfl, rfl, rfl, rfl⟩
  · intro P s hs
    exact ⟨vectorOf P, exec_decProp_running P hs, toNat_le32 P[0] P[1] P[2] P[3], toNat_le32 P[4] P[5] P[6] P[7]⟩

end Sys2Proof.Machine
end

section
/-! PROOFS. The Module Registry (spec 40_registry.md): LOOKUP and the reverse map (R80, R81). -/

namespace Sys2Proof.Machine

/-- The registry inverts the encoders' identifier: a byte answers `some m` exactly when it is `m`'s (R81). -/
theorem registry_eq_some_iff (id : Byte) (m : Module) : registry id = some m ↔ id = moduleId m := by
  unfold registry
  split_ifs with hB hP hL
  · subst hB; cases m <;> decide
  · subst hP; cases m <;> decide
  · subst hL; cases m <;> decide
  · cases m with
    | ballast => exact iff_of_false nofun hB
    | propulsion => exact iff_of_false nofun hP
    | light => exact iff_of_false nofun hL

/-- The identifiers the encoders use are the bytes below 3. -/
theorem exists_eq_moduleId_iff (id : Byte) : (∃ m, id = moduleId m) ↔ id.toNat < 3 := by
  constructor
  · rintro ⟨m, rfl⟩
    cases m <;> decide
  · intro h
    have hid : id = 0x00 ∨ id = 0x01 ∨ id = 0x02 := by bv_omega
    obtain rfl | rfl | rfl := hid
    · exact ⟨.ballast, rfl⟩
    · exact ⟨.propulsion, rfl⟩
    · exact ⟨.light, rfl⟩

/-- Every encoder writes its module's identifier at byte 1 (R100). -/
theorem encodeCommand_moduleByte (c : Command) : (encodeCommand c)[1] = moduleId c.module := by
  cases c with
  | ballast c => simp only [encodeCommand_ballast]; rfl
  | light c => simp only [encodeCommand_light]; rfl
  | propulsion c =>
    obtain ⟨v⟩ := c
    simp only [encodeCommand_propulsion]; rfl

/-- LOOKUP's operand is the eight bits above `p_op` (R67). -/
theorem pModuleId_eq (w : PReqWord) : pModuleId w = w.extractLsb' 3 8 := by
  ext i hi
  have hi' : i < 128 := by omega
  simp [pModuleId, pData, hi']

/-- A P word with `p_op = 0` is LOOKUP (R67, R80). -/
theorem decodePReq_lookup {w : PReqWord} (hop : pOp w = 0) : decodePReq w = .ok (.lookup (pModuleId w)) := by
  simp [decodePReq, hop]

/-- With FAULT 0 LOOKUP answers the registry's entry and changes nothing else (R80). -/
theorem exec_lookup_running (id : Byte) {s : State} (hs : s.fault = false) :
    exec (.lookup id) s = .next { s with pRsp := some (.looked (registry id)) } :=
  serveP_running (act := (·.respondP (.looked (registry id)))) hs

/-- Settles O10: `registry` and `moduleId` are inverse, which gives the three keys and injectivity. -/
theorem registryIsInjectiveOnThreeKeys : Obligations.RegistryIsInjectiveOnThreeKeys := by
  unfold Obligations.RegistryIsInjectiveOnThreeKeys
  refine ⟨fun id s hs => exec_lookup_running id hs, fun id => ?_, fun a b m ha hb => ?_, registry_eq_some_iff,
    rfl, rfl, rfl, encodeCommand_moduleByte⟩
  · simp only [registry_eq_some_iff, exists_eq_moduleId_iff]
  · rw [registry_eq_some_iff] at ha hb
    rw [ha, hb]

/-- Settles O9: the decoder's field, LOOKUP's answer under FAULT 0, and the port fields of the four answers. -/
theorem lookupAnswersTheRegistry : Obligations.LookupAnswersTheRegistry := by
  unfold Obligations.LookupAnswersTheRegistry
  refine ⟨fun w hop => ?_, fun id s hs => exec_lookup_running id hs, rfl, rfl, rfl, rfl, rfl, rfl, rfl, rfl⟩
  rw [decodePReq_lookup hop, pModuleId_eq]

end Sys2Proof.Machine
end

section
/-! PROOFS. The Payload Serializer's template (spec 41_framer.md): TEMPLATE and its constant frame (R85). -/

namespace Sys2Proof.Machine

/-- An S word with `s_op = 0` is TEMPLATE, whatever its other fields hold (R66, R85). -/
theorem decodeSReq_template {w : SReqWord} (hop : sOp w = 0) : decodeSReq w = .ok .template := by
  simp [decodeSReq, hop]

/-- With FAULT 0 TEMPLATE presents the template frame and changes nothing else (R85). -/
theorem exec_template_running {s : State} (hs : s.fault = false) :
    exec .template s = .next { s with sRsp := some templateFrame } :=
  serveS_running (act := (·.respondS templateFrame)) hs

/-- Settles O11: the decoder's field, TEMPLATE's answer under FAULT 0, and the template's bytes on the bus. -/
theorem templateAnswersTheConstantFrame : Obligations.TemplateAnswersTheConstantFrame := by
  unfold Obligations.TemplateAnswersTheConstantFrame
  refine ⟨fun w hop => decodeSReq_template hop, fun s hs => ?_, by decide⟩
  rw [exec_template_running hs, templateFrame_bytes]

end Sys2Proof.Machine
end

section
/-! PROOFS. The Validator (spec 42_validator.md): its two checks in order (R90 to R92), and the bytes it reads (R93). -/

namespace Sys2Proof.Machine

open Safety

/-! ## The request word -/

/-- Byte `i` of a frame is the eight bits from `8i` of its bus value (R7, D2). -/
theorem getElem_frameOfBus (w : FrameWord) (i : Nat) (hi : i < 16) : (frameOfBus w)[i] = w.extractLsb' (8 * i) 8 := by
  interval_cases i <;> rfl

/-- Byte `i` of a P word's Frame operand is the eight bits from `3 + 8i`, above `p_op` (R67). -/
theorem getElem_pFrame (w : PReqWord) (i : Nat) (hi : i < 16) : (pFrame w)[i] = w.extractLsb' (3 + 8 * i) 8 := by
  rw [pFrame, getElem_frameOfBus]
  ext j hj
  have hbit : 8 * i + j < 128 := by omega
  simp [pData, hbit, Nat.add_assoc]

/-- A P word with `p_op = 1` is VALIDATE (R67, R90). -/
theorem decodePReq_validate {w : PReqWord} (hop : pOp w = 1) : decodePReq w = .ok (.validate (pFrame w)) := by
  simp [decodePReq, hop]

/-! ## The checks -/

/-- An identifier fails when it is none of the registry's three keys (R82, R92). -/
theorem not_validId_iff (id : Byte) : ¬ validId id = true ↔ id ≠ 0x00 ∧ id ≠ 0x01 ∧ id ≠ 0x02 := by
  rw [validId, Option.isSome_iff_exists]
  simp only [registry_eq_some_iff, exists_eq_moduleId_iff]
  bv_omega

/-- Check 1 fails when either marker is wrong, whatever the identifier (R91). -/
theorem structuralCheck_wrongMarker {F : Frame} (hm : F[0] ≠ 0x0A ∨ F[15] ≠ 0x0F) :
    structuralCheck F = some (.markerMismatch F[0] F[15]) := if_pos hm

/-- With both markers right, check 2 alone decides (R92, R93). -/
theorem structuralCheck_rightMarkers {F : Frame} (hm : ¬ (F[0] ≠ 0x0A ∨ F[15] ≠ 0x0F)) :
    structuralCheck F = if validId F[1] then none else some (.unknownModule F[1]) := if_neg hm

/-- The checks read bytes 0, 1 and 15 only (R93). -/
theorem structuralCheck_congr {F G : Frame} (hstart : F[0] = G[0]) (hid : F[1] = G[1]) (hend : F[15] = G[15]) :
    structuralCheck F = structuralCheck G := by
  simp only [structuralCheck, hstart, hid, hend]

/-! ## VALIDATE -/

/-- VALIDATE in any state, its answer written as a function of the checks' outcome (R90, R94). -/
theorem exec_validate (F : Frame) (s : State) :
    exec (.validate F) s = serveP s fun s =>
      s.respondP (.validated (structuralCheck F).isNone (shown s.params (diagOf (structuralCheck F)))) := rfl

/-- With FAULT 0 VALIDATE answers the checks' outcome and changes nothing else (R90). -/
theorem exec_validate_running (F : Frame) {s : State} (hs : s.fault = false) :
    exec (.validate F) s = .next { s with
      pRsp := some (.validated (structuralCheck F).isNone (shown s.params (diagOf (structuralCheck F)))) } := by
  rw [exec_validate, serveP_running hs, State.respondP]

/-- Settles O13: the decoder's operand byte by byte, then VALIDATE's answer by the check that fails first. -/
theorem validateChecksMarkersThenModule : Obligations.ValidateChecksMarkersThenModule := by
  unfold Obligations.ValidateChecksMarkersThenModule
  refine ⟨fun w hop => ⟨pFrame w, decodePReq_validate hop, getElem_pFrame w⟩, fun F s hs => ?_,
    fun _ _ _ => ⟨rfl, rfl⟩⟩
  rw [exec_validate_running F hs]
  split_ifs with hm hid
  · simp only [structuralCheck_wrongMarker hm, diagOf, Option.isNone_some]
  · have hv : ¬ validId F[1] = true := (not_validId_iff _).2 hid
    simp only [structuralCheck_rightMarkers hm, if_neg hv, diagOf, Option.isNone_some]
  · have hv : validId F[1] = true := not_not.1 (mt (not_validId_iff _).1 hid)
    simp only [structuralCheck_rightMarkers hm, if_pos hv, diagOf, Option.isNone_none]

/-- Settles O14: the answer is a function of the checks' outcome, which those three bytes decide. -/
theorem validateIgnoresPayloadAndChecksum : Obligations.ValidateIgnoresPayloadAndChecksum := by
  unfold Obligations.ValidateIgnoresPayloadAndChecksum
  intro F G s hstart hid hend
  rw [exec_validate, exec_validate, structuralCheck_congr hstart hid hend]

end Sys2Proof.Machine
end

section
/-! PROOFS. The encoders (spec 43_encode.md): the ENCODE request word, the frames of ENC.BALLAST and ENC.PROP (R101, R103), and
the shape of every encoded frame (R105). -/

namespace Sys2Proof.Machine

open Safety

/-! ## The request word -/

/-- An S word with `s_op = 1` asks for an encoder (R66). -/
theorem decodeSReq_encode {w : SReqWord} (hop : sOp w = 1) : decodeSReq w = decodeEncodeReq w := by
  simp [decodeSReq, hop]

/-- With module 0 the request is ENC.BALLAST of the port variant, refused for the reserved code 3 (R66, R101). -/
theorem decodeEncodeReq_ballast {w : SReqWord} (hm : sCmdModule w = 0) :
    decodeEncodeReq w =
      if sCmdVariant w = 0 then .ok (.encBallast .idle)
      else if sCmdVariant w = 1 then .ok (.encBallast .intake)
      else if sCmdVariant w = 2 then .ok (.encBallast .discharge)
      else .error .reservedVariant := by
  rw [decodeEncodeReq, if_pos hm, ballastOfPort]
  split_ifs <;> rfl

/-- With module 1 and variant 0 the request is ENC.PROP of the two component fields (R66, R103). -/
theorem decodeEncodeReq_prop {w : SReqWord} (hm : sCmdModule w = 1) (hv : sCmdVariant w = 0) :
    decodeEncodeReq w = .ok (.encProp (.setThrust { x := sCmdX w, y := sCmdY w })) := by
  simp [decodeEncodeReq, hm, hv]

/-! ## Execution -/

/-- With FAULT 0 ENC.BALLAST presents the encoded frame and changes nothing else (R101). -/
theorem exec_encBallast_running (c : BallastCommand) {s : State} (hs : s.fault = false) :
    exec (.encBallast c) s = .next { s with sRsp := some (encodeCommand (.ballast c)) } :=
  serveS_running (act := (·.respondS (encodeCommand (.ballast c)))) hs

/-- With FAULT 0, where it is implemented, ENC.LIGHT presents the encoded frame and changes nothing else (R102). -/
theorem exec_encLight_running (c : LightCommand) {s : State} (hs : s.fault = false)
    (hl : s.params.LIGHT_ENCODE_IMPLEMENTED = true) :
    exec (.encLight c) s = .next { s with sRsp := some (encodeCommand (.light c)) } := by
  rw [exec, execEncLight, serveS_running hs, if_pos hl, State.respondS]

/-- With FAULT 0 the encoder of a command, where it is implemented, presents `encodeCommand` of it and changes nothing else
(R100). -/
theorem exec_encodeInstr_running (c : Command) {s : State} (hs : s.fault = false)
    (hl : c.module = .light → s.params.LIGHT_ENCODE_IMPLEMENTED = true) :
    exec (encodeInstr c) s = .next { s with sRsp := some (encodeCommand c) } := by
  cases c with
  | ballast c => exact exec_encBallast_running c hs
  | light c => exact exec_encLight_running c hs (hl rfl)
  | propulsion c => exact exec_encProp_running c hs

/-! ## The bytes an encoder leaves as the template has them -/

/-- `FrameWrite` changes only the bytes from its offset on, one per byte it writes (R8). -/
theorem getElem_frameWrite_outside (F : Frame) (off : Nat) (bs : List Byte) (i : Nat) (hi : i < 16)
    (hout : i < off ∨ off + bs.length ≤ i) : (frameWrite F off bs)[i] = F[i] := by
  induction bs generalizing F off with
  | nil => rfl
  | cons b bs ih =>
    rw [List.length_cons] at hout
    rw [frameWrite, ih _ _ (by omega), Vector.getElem_setIfInBounds_ne hi (by omega)]

/-- Byte 0 and the bytes after the payload fields stay as in the template (R100). -/
theorem getElem_encodeCommand_outside (c : Command) (i : Nat) (hi : i < 16)
    (hout : i = 0 ∨ 2 + (payloadFields c).length ≤ i) : (encodeCommand c)[i] = templateFrame[i] := by
  have offPayload : i < 2 ∨ 2 + (payloadFields c).length ≤ i := by omega
  have offModule : i < 1 ∨ 1 + 1 ≤ i := by omega
  rw [encodeCommand, getElem_frameWrite_outside _ _ _ i hi offPayload, getElem_frameWrite_outside _ _ _ i hi offModule]

/-- An encoder writes at most the two components (R101, R102, R103). -/
theorem length_payloadFields_le (c : Command) : (payloadFields c).length ≤ 8 := by
  rcases c with _ | _ | ⟨v⟩ <;> simp [payloadFields, bytesLe32]

/-- An encoder of a state command writes its state code only (R101, R102). -/
theorem length_payloadFields_state {c : Command} (hc : c.module ≠ .propulsion) : (payloadFields c).length = 1 := by
  cases c with
  | ballast c => rfl
  | light c => rfl
  | propulsion c => exact absurd rfl hc

/-- Byte 0 and bytes 10 to 15 of every encoded frame are the template's (R105). -/
theorem getElem_encodeCommand_fixed (c : Command) (i : Nat) (hi : i < 16) (hfix : i = 0 ∨ 10 ≤ i) :
    (encodeCommand c)[i] = templateFrame[i] :=
  getElem_encodeCommand_outside c i hi (by have := length_payloadFields_le c; omega)

/-- Bytes 3 to 15 of the encoded frame of a state command are the template's (R105). -/
theorem getElem_encodeCommand_state {c : Command} (hc : c.module ≠ .propulsion) (i : Nat) (hi : i < 16) (h3 : 3 ≤ i) :
    (encodeCommand c)[i] = templateFrame[i] :=
  getElem_encodeCommand_outside c i hi (by have := length_payloadFields_state hc; omega)

/-! ## The statements -/

/-- Settles O20: all bytes but the identifier and the payload fields are the template's, whose bytes are known. -/
theorem encodedFrameShape : Obligations.EncodedFrameShape := by
  unfold Obligations.EncodedFrameShape
  intro c s hs hl
  have fixed := getElem_encodeCommand_fixed c
  refine ⟨encodeCommand c, exec_encodeInstr_running c hs hl, Vector.length_toList,
    fixed 0 (by decide) (by decide), fixed 15 (by decide) (by decide), fixed 14 (by decide) (by decide), ?_,
    fixed 10 (by decide) (by decide), fixed 11 (by decide) (by decide), fixed 12 (by decide) (by decide),
    fixed 13 (by decide) (by decide), fun hc => ?_⟩
  · rw [encodeCommand_moduleByte]
    cases c <;> rfl
  · have unused := getElem_encodeCommand_state hc
    exact ⟨unused 3 (by decide) (by decide), unused 4 (by decide) (by decide), unused 5 (by decide) (by decide),
      unused 6 (by decide) (by decide), unused 7 (by decide) (by decide), unused 8 (by decide) (by decide),
      unused 9 (by decide) (by decide)⟩

/-- Settles O16: the decoder's variant field, and the encoded frame of each variant under FAULT 0. -/
theorem encBallastFrames : Obligations.EncBallastFrames := by
  unfold Obligations.EncBallastFrames
  refine ⟨fun w hop hm => (decodeSReq_encode hop).trans (decodeEncodeReq_ballast hm), fun c s hs => ?_⟩
  rw [exec_encBallast_running c hs, encodeCommand_ballast]
  cases c <;> rfl

/-- Settles O18: the decoder's component fields, and the encoded frame byte by byte under FAULT 0. -/
theorem encPropFrame : Obligations.EncPropFrame := by
  unfold Obligations.EncPropFrame
  refine ⟨fun w hop hm hv => (decodeSReq_encode hop).trans (decodeEncodeReq_prop hm hv), fun x y s hs => ?_⟩
  rw [exec_encProp_running _ hs, encodeCommand_propulsion]
  rfl

end Sys2Proof.Machine
end

section
/-! PROOFS. The payload decoders (spec 44_decode.md): the request word's payload, and the answers of DEC.BALLAST, DEC.LIGHT and
DEC.PROP (R116 to R118). -/

namespace Sys2Proof.Machine

/-! ## The request word -/

/-- Byte `j` of a P word's Payload operand is the eight bits from `3 + 8j`, above `p_op` (R67). -/
theorem getElem_pPayload (w : PReqWord) (j : Nat) (hj : j < 12) : (pPayload w)[j] = w.extractLsb' (3 + 8 * j) 8 := by
  have onBus : (pPayload w)[j] = ((pData w).extractLsb' 0 96).extractLsb' (8 * j) 8 := by interval_cases j <;> rfl
  rw [onBus]
  ext k hk
  have inPayload : 8 * j + k < 96 := by omega
  have inData : 8 * j + k < 128 := by omega
  simp [pData, inPayload, inData, Nat.add_assoc]

/-- A P word with `p_op = 2` is DEC.BALLAST (R67, R116). -/
theorem decodePReq_decBallast {w : PReqWord} (hop : pOp w = 2) : decodePReq w = .ok (.decBallast (pPayload w)) := by
  simp [decodePReq, hop]

/-- A P word with `p_op = 3` is DEC.PROP (R67, R118). -/
theorem decodePReq_decProp {w : PReqWord} (hop : pOp w = 3) : decodePReq w = .ok (.decProp (pPayload w)) := by
  simp [decodePReq, hop]

/-- A P word with `p_op = 4` is DEC.LIGHT (R67, R117). -/
theorem decodePReq_decLight {w : PReqWord} (hop : pOp w = 4) : decodePReq w = .ok (.decLight (pPayload w)) := by
  simp [decodePReq, hop]

/-! ## The answers -/

/-- DEC.BALLAST's answer by payload byte 0, code by code (R116). -/
theorem decodeBallast_byStateCode (P : Payload) :
    decodeBallast P =
      if P[0] = 0x00 then .ok (.ballast .idle)
      else if P[0] = 0x01 then .ok (.ballast .intake)
      else if P[0] = 0x02 then .ok (.ballast .discharge)
      else .error { module := .ballast, discriminant := P[0] } := by
  rw [decodeBallast, stateCode, ballastOfWire]
  split_ifs <;> rfl

/-- DEC.LIGHT's answer by payload byte 0, code by code (R117). -/
theorem decodeLight_byStateCode (P : Payload) :
    decodeLight P =
      if P[0] = 0x00 then .ok (.light .off)
      else if P[0] = 0x01 then .ok (.light .on)
      else if P[0] = 0x02 then .ok (.light .blink)
      else .error { module := .light, discriminant := P[0] } := by
  rw [decodeLight, stateCode, lightOfWire]
  split_ifs <;> rfl

/-- A pattern is read from four bytes exactly when they are its bytes, least significant first (R8). -/
theorem le32_eq_iff (a b c d : Byte) (w : W32) :
    le32 a b c d = w ↔ byteOf w 0 = a ∧ byteOf w 1 = b ∧ byteOf w 2 = c ∧ byteOf w 3 = d := by
  constructor
  · rintro rfl
    exact ⟨byteOf_le32_0 a b c d, byteOf_le32_1 a b c d, byteOf_le32_2 a b c d, byteOf_le32_3 a b c d⟩
  · rintro ⟨rfl, rfl, rfl, rfl⟩
    exact le32_bytes w

/-- `le32` puts its first byte in the least significant bits (R8). -/
theorem le32_eq_append (a b c d : Byte) : le32 a b c d = d ++ c ++ b ++ a := by
  rw [le32_eq_iff]
  refine ⟨?_, ?_, ?_, ?_⟩ <;> ext k hk <;> simp [byteOf] <;> grind

/-! ## Execution -/

/-- With FAULT 0 DEC.BALLAST answers its payload's decoding and changes nothing else (R116). -/
theorem exec_decBallast_running (P : Payload) {s : State} (hs : s.fault = false) :
    exec (.decBallast P) s = .next { s with pRsp := some (.decoded (decodeBallast P)) } :=
  serveP_running (act := (·.respondP (.decoded (decodeBallast P)))) hs

/-- With FAULT 0 DEC.LIGHT answers its payload's decoding and changes nothing else, whatever the parameters (R117). -/
theorem exec_decLight_running (P : Payload) {s : State} (hs : s.fault = false) :
    exec (.decLight P) s = .next { s with pRsp := some (.decoded (decodeLight P)) } :=
  serveP_running (act := (·.respondP (.decoded (decodeLight P)))) hs

/-! ## The statements -/

/-- Settles O22: the decoder's operand byte by byte, the answer code by code under FAULT 0, and the port fields. -/
theorem decBallastAnswersByStateCode : Obligations.DecBallastAnswersByStateCode := by
  unfold Obligations.DecBallastAnswersByStateCode
  refine ⟨fun w hop => ⟨pPayload w, decodePReq_decBallast hop, getElem_pPayload w⟩, fun P s hs => ?_,
    rfl, rfl, rfl, fun _ => rfl⟩
  rw [exec_decBallast_running P hs, decodeBallast_byStateCode]

/-- Settles O23: the decoder's operand byte by byte, the answer code by code under FAULT 0, and the port fields. -/
theorem decLightAnswersByStateCode : Obligations.DecLightAnswersByStateCode := by
  unfold Obligations.DecLightAnswersByStateCode
  refine ⟨fun w hop => ⟨pPayload w, decodePReq_decLight hop, getElem_pPayload w⟩, fun P s hs => ?_,
    rfl, rfl, rfl, fun _ => rfl⟩
  rw [exec_decLight_running P hs, decodeLight_byStateCode]

/-- Settles O24: the decoder's operand byte by byte, the vector of the two `le32` components, and the port fields. -/
theorem decPropIsTotal : Obligations.DecPropIsTotal := by
  unfold Obligations.DecPropIsTotal
  refine ⟨fun w hop => ⟨pPayload w, decodePReq_decProp hop, getElem_pPayload w⟩, fun P s hs => ?_, fun _ _ => rfl⟩
  rw [exec_decProp_running P hs, vectorOf, le32_eq_append, le32_eq_append]

end Sys2Proof.Machine
end

section
/-! PROOFS. PARSE (spec 44_decode.md): the frames that parse to a command are those that agree with its encoded frame outside the
reserved bytes (R119, R121). -/

namespace Sys2Proof.Machine

open Safety

/-! ## When a payload decodes to a command -/

/-- Ballast's wire code is read back as the variant it was written for, and no other byte is (R54). -/
theorem ballastOfWire_eq_some_iff (b : Byte) (c : BallastCommand) : ballastOfWire b = some c ↔ ballastWire c = b := by
  constructor
  · unfold ballastOfWire
    split_ifs <;> rintro ⟨⟩ <;> exact Eq.symm ‹_›
  · rintro rfl
    cases c <;> rfl

/-- Light's wire code is read back as the variant it was written for, and no other byte is (R54). -/
theorem lightOfWire_eq_some_iff (b : Byte) (c : LightCommand) : lightOfWire b = some c ↔ lightWire c = b := by
  constructor
  · unfold lightOfWire
    split_ifs <;> rintro ⟨⟩ <;> exact Eq.symm ‹_›
  · rintro rfl
    cases c <;> rfl

/-- DEC.BALLAST answers `Ok` of a Ballast command exactly for its wire code at payload byte 0 (R116). -/
theorem decodeBallast_eq_ok_iff (P : Payload) (c : Command) :
    decodeBallast P = .ok c ↔ ∃ b, c = .ballast b ∧ ballastWire b = P[0] := by
  unfold decodeBallast stateCode
  simp only [← ballastOfWire_eq_some_iff]
  cases ballastOfWire P[0] <;> simp [eq_comm]

/-- DEC.LIGHT answers `Ok` of a Light command exactly for its wire code at payload byte 0 (R117). -/
theorem decodeLight_eq_ok_iff (P : Payload) (c : Command) :
    decodeLight P = .ok c ↔ ∃ l, c = .light l ∧ lightWire l = P[0] := by
  unfold decodeLight stateCode
  simp only [← lightOfWire_eq_some_iff]
  cases lightOfWire P[0] <;> simp [eq_comm]

/-- The components read from a payload are `v` exactly when its first eight bytes are `v`'s (R118). -/
theorem vectorOf_eq_iff (P : Payload) (v : DirectionVector) :
    vectorOf P = v ↔ bytesLe32 v.x ++ bytesLe32 v.y <+: P.toList := by
  rw [payload_eta P]
  obtain ⟨x, y⟩ := v
  simp [vectorOf, le32_eq_iff, bytesLe32, and_assoc]

/-- A decoder answers `Ok(c)` exactly when it is that of `c`'s module and the payload starts with the bytes `c`'s encoder writes
(R116 to R118). -/
theorem decodeFor_eq_ok_iff (m : Module) (P : Payload) (c : Command) :
    decodeFor m P = .ok c ↔ m = c.module ∧ payloadFields c <+: P.toList := by
  have firstByte (b : Byte) : [b] <+: P.toList ↔ b = P[0] := by
    rw [payload_eta P]
    simp
  cases m with
  | ballast =>
    rw [decodeFor, decodeBallast_eq_ok_iff]
    cases c <;> simp [Command.module, payloadFields, firstByte]
  | light =>
    rw [decodeFor, decodeLight_eq_ok_iff]
    cases c <;> simp [Command.module, payloadFields, firstByte]
  | propulsion =>
    rcases c with _ | _ | ⟨⟨v⟩⟩ <;> simp [decodeFor, decodeProp, Command.module, payloadFields, vectorOf_eq_iff]

/-! ## When a frame parses to a command -/

/-- The checks pass exactly for the two markers around a registered identifier (R91, R92). -/
theorem structuralCheck_eq_none_iff (F : Frame) :
    structuralCheck F = none ↔ F[0] = 0x0A ∧ F[15] = 0x0F ∧ ∃ m, registry F[1] = some m := by
  rw [← Option.isSome_iff_exists, ← validId]
  by_cases hm : F[0] ≠ 0x0A ∨ F[15] ≠ 0x0F
  · rw [structuralCheck_wrongMarker hm]
    exact iff_of_false nofun fun ⟨hstart, hend, _⟩ => hm.elim (· hstart) (· hend)
  · rw [structuralCheck_rightMarkers hm]
    obtain ⟨hstart, hend⟩ : F[0] = 0x0A ∧ F[15] = 0x0F := by simpa using hm
    simp [hstart, hend]

/-- PARSE answers `Ok(c)` exactly when the markers and the identifier are those of `c` and the payload starts with the bytes
`c`'s encoder writes (R119). -/
theorem parseFrame_eq_ok_iff (F : Frame) (c : Command) :
    parseFrame F = .ok c ↔
      F[0] = 0x0A ∧ F[15] = 0x0F ∧ F[1] = moduleId c.module ∧ payloadFields c <+: (payloadOf F).toList := by
  have parseOfDecode_eq_ok_iff (r : DecodeResult) : parseOfDecode r = .ok c ↔ r = .ok c := by
    cases r <;> simp [parseOfDecode]
  rw [parseFrame, ← registry_eq_some_iff]
  cases hcheck : structuralCheck F with
  | some e =>
    have failed := (structuralCheck_eq_none_iff F).not.1 (by simp [hcheck])
    exact iff_of_false nofun fun ⟨hstart, hend, hid, _⟩ => failed ⟨hstart, hend, _, hid⟩
  | none =>
    obtain ⟨hstart, hend, m, hid⟩ := (structuralCheck_eq_none_iff F).1 hcheck
    simp [hstart, hend, hid, parseOfDecode_eq_ok_iff, decodeFor_eq_ok_iff]

/-- With FAULT 0 PARSE answers with the Validator's diagnostic and changes nothing else (R119). -/
theorem exec_parse_running (F : Frame) {s : State} (hs : s.fault = false) :
    exec (.parse F) s = .next { s with
      pRsp := some (.parsed (parseFrame F) (shown s.params (diagOf (structuralCheck F)))) } :=
  serveP_running (act := fun s => s.respondP (.parsed (parseFrame F) (diagFor s F))) hs

/-- With FAULT 0 the block answers `Ok(c)`, with the diagnostic of a passed check, exactly when the frame parses to `c` (R119). -/
theorem exec_parse_ok_iff (F : Frame) (c : Command) {s : State} (hs : s.fault = false) :
    exec (.parse F) s = .next { s with pRsp := some (.parsed (.ok c) (shown s.params .passed)) } ↔ parseFrame F = .ok c := by
  rw [exec_parse_running F hs]
  constructor
  · intro answer
    injection answer with answer
    injection congrArg State.pRsp answer with answer
    injection answer
  · intro parses
    obtain ⟨hstart, hend, hid, -⟩ := (parseFrame_eq_ok_iff F c).1 parses
    have passes := (structuralCheck_eq_none_iff F).2 ⟨hstart, hend, _, (registry_eq_some_iff _ _).2 hid⟩
    rw [parses, passes, diagOf]

/-! ## The encoded frame among them -/

/-- Byte `j` of a frame's payload is byte `j + 2` of the frame (R31). -/
theorem getElem_payloadOf (F : Frame) (j : Nat) (hj : j < 12) : (payloadOf F)[j] = F[j + 2] := by
  interval_cases j <;> rfl

/-- A frame's payload starts with the bytes the encoder writes exactly when they stand from frame byte 2 on (R31). -/
theorem payloadFields_prefix_iff (F : Frame) (c : Command) :
    payloadFields c <+: (payloadOf F).toList ↔
      ∀ (j : Nat) (hj : j < (payloadFields c).length),
        F[j + 2]'(by have := length_payloadFields_le c; omega) = (payloadFields c)[j] := by
  have fits : (payloadFields c).length ≤ 12 := (length_payloadFields_le c).trans (by decide)
  rw [List.prefix_iff_getElem]
  simp [fits, getElem_payloadOf, eq_comm]

/-- The payload of an encoded frame starts with the bytes the encoder writes (R100). -/
theorem payloadFields_prefix_encodeCommand (c : Command) : payloadFields c <+: (payloadOf (encodeCommand c)).toList := by
  cases c with
  | ballast c => rw [encodeCommand_ballast]; exact ⟨_, rfl⟩
  | light c => rw [encodeCommand_light]; exact ⟨_, rfl⟩
  | propulsion c =>
    obtain ⟨v⟩ := c
    rw [encodeCommand_propulsion]; exact ⟨_, rfl⟩

/-- The reserved bytes of a command's frame: those after the payload fields and before the end marker (R65). -/
def ReservedByte (c : Command) (i : Nat) : Prop := 2 + (payloadFields c).length ≤ i ∧ i < 15

/-- Every reserved byte of an encoded frame is zero (R105). -/
theorem getElem_encodeCommand_reserved {c : Command} {i : Nat} (hr : ReservedByte c i) :
    (encodeCommand c)[i]'(by have := hr.2; omega) = 0 := by
  obtain ⟨after, before⟩ := hr
  have templateZero : templateFrame[i] = 0 := by
    have two : 2 ≤ i := by omega
    simp only [templateFrame_bytes]
    interval_cases i <;> rfl
  rw [getElem_encodeCommand_outside c i (by omega) (.inr after), templateZero]

/-- A frame parses to `c` exactly when it agrees with `c`'s encoded frame at every byte that is not reserved (R121). -/
theorem parseFrame_eq_ok_iff_agrees (F : Frame) (c : Command) :
    parseFrame F = .ok c ↔ ∀ (i : Nat) (hi : i < 16), ¬ ReservedByte c i → F[i] = (encodeCommand c)[i] := by
  have length_le := length_payloadFields_le c
  have encodedStart : (encodeCommand c)[0] = 0x0A := getElem_encodeCommand_fixed c 0 (by decide) (by decide)
  have encodedEnd : (encodeCommand c)[15] = 0x0F := getElem_encodeCommand_fixed c 15 (by decide) (by decide)
  have encodedPayload := (payloadFields_prefix_iff _ c).1 (payloadFields_prefix_encodeCommand c)
  rw [parseFrame_eq_ok_iff, payloadFields_prefix_iff, ← encodeCommand_moduleByte, ← encodedStart, ← encodedEnd]
  unfold ReservedByte
  constructor
  · rintro ⟨hstart, hend, hid, hpayload⟩ i hi unreserved
    have place : i = 0 ∨ i = 1 ∨ i = 15 ∨ ∃ j, j < (payloadFields c).length ∧ i = j + 2 := by
      by_cases payloadByte : 2 ≤ i ∧ i < 15
      · exact .inr (.inr (.inr ⟨i - 2, by omega, by omega⟩))
      · omega
    obtain rfl | rfl | rfl | ⟨j, hj, rfl⟩ := place
    · exact hstart
    · exact hid
    · exact hend
    · rw [hpayload j hj, encodedPayload j hj]
  · intro agrees
    refine ⟨agrees 0 (by decide) (by omega), agrees 15 (by decide) (by omega), agrees 1 (by decide) (by omega),
      fun j hj => ?_⟩
    rw [agrees (j + 2) (by omega) (by omega), encodedPayload j hj]

/-- Another frame that parses to `c`: the encoded one with a non-zero checksum byte (R121). -/
theorem parseFrame_set_checksum (c : Command) (b : Byte) : parseFrame ((encodeCommand c).set 14 b) = .ok c := by
  rw [parseFrame_eq_ok_iff_agrees]
  intro i hi unreserved
  have length_le := length_payloadFields_le c
  have notChecksum : 14 ≠ i := by
    rintro rfl
    exact unreserved ⟨by omega, by omega⟩
  exact Vector.getElem_set_ne _ hi notChecksum

/-- Among the frames that parse to `c`, the encoded one is the one whose reserved bytes are all zero (R121). -/
theorem eq_encodeCommand_iff_reserved_zero {F : Frame} {c : Command} (parses : parseFrame F = .ok c) :
    F = encodeCommand c ↔ ∀ (i : Nat) (hr : ReservedByte c i), F[i]'(by have := hr.2; omega) = 0 := by
  constructor
  · rintro rfl i hr
    exact getElem_encodeCommand_reserved hr
  · intro zeros
    apply Vector.ext
    intro i hi
    by_cases hr : ReservedByte c i
    · rw [zeros i hr, getElem_encodeCommand_reserved hr]
    · exact (parseFrame_eq_ok_iff_agrees F c).1 parses i hi hr

/-- An encoder of a Propulsion command writes the eight bytes of its two components (R103). -/
theorem length_payloadFields_propulsion {c : Command} (hc : c.module = .propulsion) : (payloadFields c).length = 8 := by
  rcases c with _ | _ | ⟨v⟩
  · cases hc
  · cases hc
  · rfl

/-- Where the reserved bytes begin: at 10 in a Propulsion frame, at 3 in any other (R65). -/
theorem reservedByte_iff (c : Command) (i : Nat) :
    ReservedByte c i ↔ (10 ≤ i ∨ c.module ≠ .propulsion ∧ 3 ≤ i) ∧ i < 15 := by
  unfold ReservedByte
  by_cases hc : c.module = .propulsion
  · simp [length_payloadFields_propulsion hc, hc]
  · simp only [length_payloadFields_state hc, ne_eq, hc, not_false_eq_true, true_and]
    omega

/-- The reserved bytes one by one, in the order R121 is stated in: the checksum, the end of both payload formats, and the rest of
a state command's payload. -/
theorem reserved_zero_iff (F : Frame) (c : Command) :
    (∀ (i : Nat) (hr : ReservedByte c i), F[i]'(by have := hr.2; omega) = 0) ↔
      (F[14] = 0 ∧ F[10] = 0 ∧ F[11] = 0 ∧ F[12] = 0 ∧ F[13] = 0 ∧
        (c.module ≠ .propulsion →
          F[3] = 0 ∧ F[4] = 0 ∧ F[5] = 0 ∧ F[6] = 0 ∧ F[7] = 0 ∧ F[8] = 0 ∧ F[9] = 0)) := by
  simp only [reservedByte_iff]
  constructor
  · intro zeros
    have last (i : Nat) (from10 : 10 ≤ i) (hi : i < 15) : F[i] = 0 := zeros i ⟨.inl from10, hi⟩
    refine ⟨last 14 (by decide) (by decide), last 10 (by decide) (by decide), last 11 (by decide) (by decide),
      last 12 (by decide) (by decide), last 13 (by decide) (by decide), fun hc => ?_⟩
    have unused (i : Nat) (from3 : 3 ≤ i) (hi : i < 15) : F[i] = 0 := zeros i ⟨.inr ⟨hc, from3⟩, hi⟩
    exact ⟨unused 3 (by decide) (by decide), unused 4 (by decide) (by decide), unused 5 (by decide) (by decide),
      unused 6 (by decide) (by decide), unused 7 (by decide) (by decide), unused 8 (by decide) (by decide),
      unused 9 (by decide) (by decide)⟩
  · rintro ⟨h14, h10, h11, h12, h13, unused⟩ i ⟨from10 | ⟨hc, from3⟩, hi⟩
    · interval_cases i <;> assumption
    · obtain ⟨h3, h4, h5, h6, h7, h8, h9⟩ := unused hc
      interval_cases i <;> assumption

/-- Settles O28: the encoded frame with byte 14 set is the second frame; a frame that parses to `c` differs from the encoded one
at reserved bytes only, which the encoder leaves zero. -/
theorem encodedFrameIsTheOneWithReservedBytesZero : Obligations.EncodedFrameIsTheOneWithReservedBytesZero := by
  unfold Obligations.EncodedFrameIsTheOneWithReservedBytesZero
  intro c s hs
  refine ⟨⟨(encodeCommand c).set 14 0xFF, fun same => ?_, ?_⟩, fun F answer => ?_, exec_encodeInstr_running c hs⟩
  · have checksumByte := congrArg (·[14]) same
    simp [getElem_encodeCommand_fixed, templateFrame_bytes] at checksumByte
  · exact (exec_parse_ok_iff _ c hs).2 (parseFrame_set_checksum c 0xFF)
  · rw [eq_encodeCommand_iff_reserved_zero ((exec_parse_ok_iff F c hs).1 answer), reserved_zero_iff]

end Sys2Proof.Machine
end

section
/-! PROOFS. Words and their bytes (spec 00_scope.md section 5, 30_encoding.md sections 2 and 5): the bus maps are inverse (R7, D2), the
fields of a request word are what the decoder reads and no more (R66, R67), and the code tables both ways (R54). -/

namespace Sys2Proof.Machine

/-! ## Bytes of a word -/

/-- Words of whole bytes are equal when their bytes are. -/
theorem eq_of_byteOf_eq {n : Nat} {w w' : BitVec n} (same : ∀ i, 8 * i + 8 ≤ n → byteOf w i = byteOf w' i) (hn : n % 8 = 0) :
    w = w' := by
  ext k hk
  have byteEq := same (k / 8) (by omega)
  have bitEq := congrArg (·.getLsbD (k % 8)) byteEq
  have inByte : k % 8 < 8 := by omega
  have place : 8 * (k / 8) + k % 8 = k := by omega
  simpa [byteOf, inByte, place, BitVec.getLsbD_eq_getElem hk] using bitEq

/-- Byte `i` of a bitwise and. -/
theorem byteOf_and {n : Nat} (w w' : BitVec n) (i : Nat) : byteOf (w &&& w') i = byteOf w i &&& byteOf w' i :=
  BitVec.extractLsb'_and ..

/-- Words that agree on their low bits agree on every field inside them. -/
theorem extractLsb'_eq_of_low_eq {n len : Nat} {w w' : BitVec n} (same : w.extractLsb' 0 len = w'.extractLsb' 0 len)
    {start width : Nat} (inside : start + width ≤ len) : w.extractLsb' start width = w'.extractLsb' start width := by
  ext k hk
  have bitEq := congrArg (·.getLsbD (start + k)) same
  have inLow : start + k < len := by omega
  simpa [inLow] using bitEq

/-- `le32` of the bytes from byte `i` on is the 32-bit field from bit `8i` (R8). -/
theorem le32_byteOf {n : Nat} (w : BitVec n) (i : Nat) :
    le32 (byteOf w i) (byteOf w (i + 1)) (byteOf w (i + 2)) (byteOf w (i + 3)) = w.extractLsb' (8 * i) 32 := by
  have byteOfField (j : Nat) (hj : j < 4) : byteOf (w.extractLsb' (8 * i) 32) j = byteOf w (i + j) := by
    ext k hk
    have inField : 8 * j + k < 32 := by omega
    simp [byteOf, inField, Nat.mul_add, Nat.add_assoc]
  rw [le32_eq_iff]
  exact ⟨byteOfField 0 (by decide), byteOfField 1 (by decide), byteOfField 2 (by decide), byteOfField 3 (by decide)⟩

/-! ## The bus maps -/

/-- A frame put on the bus is read back (R7). -/
theorem frameOfBus_frameToBus (F : Frame) : frameOfBus (frameToBus F) = F := by
  apply Vector.ext
  intro i hi
  rw [getElem_frameOfBus]
  exact byteOf_frameToBus F i hi

/-- A bus value read as a frame is put back on the bus (R7). -/
theorem frameToBus_frameOfBus (w : FrameWord) : frameToBus (frameOfBus w) = w := by
  refine eq_of_byteOf_eq (fun i hi => ?_) (by decide)
  rw [byteOf_frameToBus _ i (by omega), getElem_frameOfBus]
  rfl

/-- Byte `j` of a payload is the eight bits from `8j` of its bus value (R7). -/
theorem getElem_payloadOfBus (w : BitVec 96) (j : Nat) (hj : j < 12) : (payloadOfBus w)[j] = byteOf w j := by
  interval_cases j <;> rfl

/-- A payload put on the bus is read back (R7). -/
theorem payloadOfBus_payloadToBus (P : Payload) : payloadOfBus (payloadToBus P) = P := by
  apply Vector.ext
  intro j hj
  rw [getElem_payloadOfBus, byteOf_payloadToBus P j hj]

/-- A bus value read as a payload is put back on the bus (R7). -/
theorem payloadToBus_payloadOfBus (w : BitVec 96) : payloadToBus (payloadOfBus w) = w := by
  refine eq_of_byteOf_eq (fun j hj => ?_) (by decide)
  rw [byteOf_payloadToBus _ j (by omega), getElem_payloadOfBus]

/-- Settles O7: each map followed by the other gives back every byte. -/
theorem busMapsAreInverse : Obligations.BusMapsAreInverse := by
  unfold Obligations.BusMapsAreInverse
  exact ⟨frameOfBus_frameToBus, frameToBus_frameOfBus, payloadOfBus_payloadToBus, payloadToBus_payloadOfBus,
    getElem_frameOfBus⟩

/-! ## The P channel's request word -/

/-- The data field of a request word built from its fields (R67). -/
theorem pData_pReqWord (op : BitVec 3) (d : BitVec 128) : pData (pReqWord op d) = d := by
  ext j hj
  have inWord : 3 + j < 131 := by omega
  simp [pData, pReqWord, inWord, hj, BitVec.getLsbD_eq_getElem]

/-- The decoder reads a payload as it was written, the bits above it not read (R67). -/
theorem pPayload_pReqWord (op : BitVec 3) (P : Payload) :
    pPayload (pReqWord op ((payloadToBus P).setWidth 128)) = P := by
  have lowBits : ((payloadToBus P).setWidth 128).extractLsb' 0 96 = payloadToBus P := by
    ext j hj
    have inData : j < 128 := by omega
    simp [inData, hj, BitVec.getLsbD_eq_getElem]
  rw [pPayload, pData_pReqWord, lowBits, payloadOfBus_payloadToBus]

/-- The decoder reads a frame as it was written (R67). -/
theorem pFrame_pReqWord (op : BitVec 3) (F : Frame) : pFrame (pReqWord op (frameToBus F)) = F := by
  rw [pFrame, pData_pReqWord, frameOfBus_frameToBus]

/-- The decoder reads an identifier as it was written (R67). -/
theorem pModuleId_pReqWord (op : BitVec 3) (id : Byte) : pModuleId (pReqWord op (id.setWidth 128)) = id := by
  rw [pModuleId, pData_pReqWord]
  ext j hj
  have inData : j < 128 := by omega
  simp [inData, BitVec.getLsbD_eq_getElem hj]

/-- A P word with `p_op = 5` is PARSE (R67, R119). -/
theorem decodePReq_parse {w : PReqWord} (hop : pOp w = 5) : decodePReq w = .ok (.parse (pFrame w)) := by
  simp [decodePReq, hop]

/-- A P word carries an instruction exactly when its operation is not 6 or 7 (R67). -/
theorem decodePReq_ok_iff (w : PReqWord) : (∃ i, decodePReq w = .ok i) ↔ pReqWellFormed w = true := by
  unfold decodePReq pReqWellFormed
  generalize pOp w = op
  split_ifs with h0 h1 h2 h3 h4 h5
  · simp [h0]
  · simp [h1]
  · simp [h2]
  · simp [h3]
  · simp [h4]
  · simp [h5]
  · have reserved : op = 6 ∨ op = 7 := by bv_omega
    rcases reserved with rfl | rfl <;> simp

/-! ## The S channel's request word -/

/-- The x field of a request word built from its fields (R66). -/
theorem sCmdX_sReqWord (op m v : BitVec 2) (x y : W32) : sCmdX (sReqWord op m v x y) = x := by
  ext j hj
  simp only [sCmdX, sReqWord, BitVec.getElem_extractLsb', BitVec.getLsbD_or, BitVec.getLsbD_setWidth,
    BitVec.getLsbD_shiftLeft]
  grind

/-- The y field of a request word built from its fields (R66). -/
theorem sCmdY_sReqWord (op m v : BitVec 2) (x y : W32) : sCmdY (sReqWord op m v x y) = y := by
  ext j hj
  simp only [sCmdY, sReqWord, BitVec.getElem_extractLsb', BitVec.getLsbD_or, BitVec.getLsbD_setWidth,
    BitVec.getLsbD_shiftLeft]
  grind

/-- An S word with `s_op = 2` is CHECKSUM, whatever its other fields hold (R66, R104). -/
theorem decodeSReq_checksum {w : SReqWord} (hop : sOp w = 2) : decodeSReq w = .ok .checksum := by
  simp [decodeSReq, hop]

/-- With module 2 the request is ENC.LIGHT of the port variant, refused for the reserved code 3 (R66, R102). -/
theorem decodeEncodeReq_light {w : SReqWord} (hm : sCmdModule w = 2) :
    decodeEncodeReq w =
      if sCmdVariant w = 0 then .ok (.encLight .on)
      else if sCmdVariant w = 1 then .ok (.encLight .off)
      else if sCmdVariant w = 2 then .ok (.encLight .blink)
      else .error .reservedVariant := by
  simp only [decodeEncodeReq, hm, lightOfPort]
  split_ifs <;> simp_all

/-- An ENCODE request carries an instruction exactly for a module and a variant the block has (R66). -/
theorem decodeEncodeReq_ok_iff (w : SReqWord) :
    (∃ i, decodeEncodeReq w = .ok i) ↔
      (sCmdModule w = 0 ∨ sCmdModule w = 2) ∧ sCmdVariant w ≠ 3 ∨ sCmdModule w = 1 ∧ sCmdVariant w = 0 := by
  have modules : sCmdModule w = 0 ∨ sCmdModule w = 1 ∨ sCmdModule w = 2 ∨ sCmdModule w = 3 := by bv_omega
  have codes : sCmdVariant w = 0 ∨ sCmdVariant w = 1 ∨ sCmdVariant w = 2 ∨ sCmdVariant w = 3 := by bv_omega
  rcases modules with hm | hm | hm | hm
  · rw [decodeEncodeReq_ballast hm]
    rcases codes with hv | hv | hv | hv <;> simp [hm, hv]
  · rcases codes with hv | hv | hv | hv <;> simp [decodeEncodeReq, hm, hv]
  · rw [decodeEncodeReq_light hm]
    rcases codes with hv | hv | hv | hv <;> simp [hm, hv]
  · simp [decodeEncodeReq, hm]

/-- An S word carries an instruction exactly when it is TEMPLATE, CHECKSUM or an ENCODE request that carries one (R66). -/
theorem decodeSReq_ok_iff (w : SReqWord) :
    (∃ i, decodeSReq w = .ok i) ↔
      sOp w = 0 ∨ sOp w = 2 ∨ (sOp w = 1 ∧
        ((sCmdModule w = 0 ∨ sCmdModule w = 2) ∧ sCmdVariant w ≠ 3 ∨ sCmdModule w = 1 ∧ sCmdVariant w = 0)) := by
  have operations : sOp w = 0 ∨ sOp w = 1 ∨ sOp w = 2 ∨ sOp w = 3 := by bv_omega
  rcases operations with hop | hop | hop | hop
  · simp [decodeSReq, hop]
  · rw [decodeSReq_encode hop, decodeEncodeReq_ok_iff]
    simp [hop]
  · simp [decodeSReq, hop]
  · simp [decodeSReq, hop]

/-- Well-formedness of an S word, as a condition on its three short fields (R66). -/
theorem sReqWellFormed_iff (w : SReqWord) :
    sReqWellFormed w = true ↔
      sOp w = 0 ∨ sOp w = 2 ∨ (sOp w = 1 ∧
        ((sCmdModule w = 0 ∨ sCmdModule w = 2) ∧ sCmdVariant w ≠ 3 ∨ sCmdModule w = 1 ∧ sCmdVariant w = 0)) := by
  unfold sReqWellFormed
  generalize sOp w = op
  generalize sCmdModule w = m
  generalize sCmdVariant w = v
  revert op m v
  decide

/-- A P word's operation is one of the six exactly when it is not 6 or 7 (R67). -/
theorem pReqWellFormed_iff (w : PReqWord) : pReqWellFormed w = true ↔ (pOp w).toNat ≤ 5 := by
  unfold pReqWellFormed
  generalize pOp w = op
  revert op
  decide

/-- Settles O5: the decoder and the well-formedness check say the same of the fields, field by field. -/
theorem wellFormedRequestsDecodeOthersAreRejected : Obligations.WellFormedRequestsDecodeOthersAreRejected := by
  unfold Obligations.WellFormedRequestsDecodeOthersAreRejected
  refine ⟨decodeSReq_ok_iff, fun w => ?_, fun w => ?_, fun w => (decodePReq_ok_iff w).symm⟩
  · exact (decodePReq_ok_iff w).trans (pReqWellFormed_iff w)
  · exact (sReqWellFormed_iff w).trans (decodeSReq_ok_iff w).symm

/-! ## Fields that are not read -/

/-- An S word that is no ENCODE request is read by its operation alone (R66). -/
theorem decodeSReq_congr_op {w w' : SReqWord} (sameOp : sOp w = sOp w') (noEncode : sOp w ≠ 1) :
    decodeSReq w = decodeSReq w' := by
  simp only [decodeSReq, ← sameOp, if_neg noEncode]

/-- An ENCODE request of a module without components is read by its module and variant alone (R66). -/
theorem decodeEncodeReq_congr {w w' : SReqWord} (sameModule : sCmdModule w = sCmdModule w')
    (sameVariant : sCmdVariant w = sCmdVariant w') (noComponents : sCmdModule w ≠ 1) :
    decodeEncodeReq w = decodeEncodeReq w' := by
  simp only [decodeEncodeReq, ← sameModule, ← sameVariant, if_neg noComponents]

/-- The payload operand is read from bits 98:3 (R67). -/
theorem pPayload_congr {w w' : PReqWord} (same : w.extractLsb' 0 99 = w'.extractLsb' 0 99) : pPayload w = pPayload w' := by
  apply Vector.ext
  intro j hj
  rw [getElem_pPayload, getElem_pPayload]
  exact extractLsb'_eq_of_low_eq same (by omega)

/-- Settles O6: words that agree on their low bits agree on every field inside them, and the decoder reads no other. -/
theorem unreadRequestFieldsChangeNothing : Obligations.UnreadRequestFieldsChangeNothing := by
  unfold Obligations.UnreadRequestFieldsChangeNothing
  refine ⟨fun w w' same noEncode => decodeSReq_congr_op same noEncode, fun w w' same hop hm => ?_,
    fun w w' same hop => ?_, fun w w' same hop => ?_⟩
  · have sameOp : sOp w = sOp w' := extractLsb'_eq_of_low_eq same (by decide)
    rw [decodeSReq_encode hop, decodeSReq_encode (sameOp.symm.trans hop)]
    exact decodeEncodeReq_congr (extractLsb'_eq_of_low_eq same (by decide))
      (extractLsb'_eq_of_low_eq same (by decide)) hm
  · have sameOp : pOp w = pOp w' := extractLsb'_eq_of_low_eq same (by decide)
    rw [decodePReq_lookup hop, decodePReq_lookup (sameOp.symm.trans hop), pModuleId_eq, pModuleId_eq,
      extractLsb'_eq_of_low_eq same (by decide)]
  · have sameOp : pOp w = pOp w' := extractLsb'_eq_of_low_eq same (by decide)
    have samePayload := pPayload_congr same
    rcases hop with hop | hop | hop
    · rw [decodePReq_decBallast hop, decodePReq_decBallast (sameOp.symm.trans hop), samePayload]
    · rw [decodePReq_decProp hop, decodePReq_decProp (sameOp.symm.trans hop), samePayload]
    · rw [decodePReq_decLight hop, decodePReq_decLight (sameOp.symm.trans hop), samePayload]

/-! ## The code tables -/

/-- A byte above the three codes is no state code of either module (R54). -/
theorem ofWire_eq_none {b : Byte} (hb : 3 ≤ b.toNat) : ballastOfWire b = none ∧ lightOfWire b = none := by
  have notZero : b ≠ 0 := by bv_omega
  have notOne : b ≠ 1 := by bv_omega
  have notTwo : b ≠ 2 := by bv_omega
  rw [ballastOfWire, lightOfWire, if_neg notZero, if_neg notOne, if_neg notTwo, if_neg notZero, if_neg notOne, if_neg notTwo]
  exact ⟨rfl, rfl⟩

/-- Ballast's port code is read back as the variant it stands for, and no other code is (R54, D5). -/
theorem ballastOfPort_eq_some_iff (v : BitVec 2) (c : BallastCommand) : ballastOfPort v = some c ↔ v = ballastPort c := by
  revert v
  cases c <;> decide

/-- Light's port code is read back as the variant it stands for, and no other code is (R54, D5). -/
theorem lightOfPort_eq_some_iff (v : BitVec 2) (c : LightCommand) : lightOfPort v = some c ↔ v = lightPort c := by
  revert v
  cases c <;> decide

/-- Settles O33: each code table inverts the one of the encoder or of the ports, which are read off. -/
theorem stateCodesOnWireAndPort : Obligations.StateCodesOnWireAndPort := by
  unfold Obligations.StateCodesOnWireAndPort
  refine ⟨fun b c => ?_, fun b c => ?_, fun c => (ballastOfWire_eq_some_iff _ c).2 rfl,
    fun c => (lightOfWire_eq_some_iff _ c).2 rfl, fun b hb => ofWire_eq_none hb, fun v c => ?_, fun v c => ?_⟩
  · rw [ballastOfWire_eq_some_iff, eq_comm]
    cases c <;> rfl
  · rw [lightOfWire_eq_some_iff, eq_comm]
    cases c <;> rfl
  · rw [ballastOfPort_eq_some_iff]
    cases c <;> rfl
  · rw [lightOfPort_eq_some_iff]
    cases c <;> rfl

end Sys2Proof.Machine
end

section
/-! PROOFS. Received frames (spec 44_decode.md, 30_encoding.md section 3): the parser's answer by the frame's bytes and what the port
shows of it (R119), and the mask and match table read byte by byte (R56). -/

namespace Sys2Proof.Machine

open Safety

/-! ## The parser's answer, by the first check that fails -/

/-- A wrong marker is the one error PARSE reports, whatever the other bytes hold (R119, D12). -/
theorem parseFrame_wrongMarker {F : Frame} (hm : F[0] ≠ 0x0A ∨ F[15] ≠ 0x0F) :
    parseFrame F = .structuralError (.markerMismatch F[0] F[15]) := by
  simp only [parseFrame, structuralCheck_wrongMarker hm]

/-- With both markers right and a module's identifier the checks pass (R91, R92). -/
theorem structuralCheck_registered {F : Frame} (hm : ¬ (F[0] ≠ 0x0A ∨ F[15] ≠ 0x0F)) {m : Module} (hid : F[1] = moduleId m) :
    structuralCheck F = none := by
  have known := (registry_eq_some_iff F[1] m).2 hid
  rw [structuralCheck_rightMarkers hm, validId, known]
  rfl

/-- With both markers right and no module's identifier check 2 fails (R92). -/
theorem structuralCheck_unknownModule {F : Frame} (hm : ¬ (F[0] ≠ 0x0A ∨ F[15] ≠ 0x0F))
    (hid : F[1] ≠ 0x00 ∧ F[1] ≠ 0x01 ∧ F[1] ≠ 0x02) : structuralCheck F = some (.unknownModule F[1]) := by
  rw [structuralCheck_rightMarkers hm, if_neg ((not_validId_iff _).2 hid)]

/-- With both markers right an unknown identifier is the error PARSE reports (R119, D12). -/
theorem parseFrame_unknownModule {F : Frame} (hm : ¬ (F[0] ≠ 0x0A ∨ F[15] ≠ 0x0F))
    (hid : F[1] ≠ 0x00 ∧ F[1] ≠ 0x01 ∧ F[1] ≠ 0x02) : parseFrame F = .structuralError (.unknownModule F[1]) := by
  simp only [parseFrame, structuralCheck_unknownModule hm hid]

/-- Where the checks pass PARSE answers what the identifier's decoder does on the frame's payload (R119). -/
theorem parseFrame_registered {F : Frame} (hm : ¬ (F[0] ≠ 0x0A ∨ F[15] ≠ 0x0F)) {m : Module} (hid : F[1] = moduleId m) :
    parseFrame F = parseOfDecode (decodeFor m (payloadOf F)) := by
  simp only [parseFrame, structuralCheck_registered hm hid, (registry_eq_some_iff F[1] m).2 hid]

/-- A frame's state code is its byte 2 (R31, R32). -/
theorem payloadOf_zero (F : Frame) : (payloadOf F)[0] = F[2] := rfl

/-- Settles O25: the decoder's operand byte by byte, then PARSE's answer by the check that fails first, or by the module. -/
theorem parseChecksThenDecodes : Obligations.ParseChecksThenDecodes := by
  unfold Obligations.ParseChecksThenDecodes
  refine ⟨fun w hop => ⟨pFrame w, decodePReq_parse hop, getElem_pFrame w⟩, fun F s hs => ?_⟩
  rw [exec_parse_running F hs]
  by_cases hm : F[0] ≠ 0x0A ∨ F[15] ≠ 0x0F
  · rw [if_pos hm, structuralCheck_wrongMarker hm, parseFrame_wrongMarker hm, diagOf]
  rw [if_neg hm]
  by_cases hB : F[1] = 0x00
  · rw [if_pos hB, structuralCheck_registered (m := .ballast) hm hB, parseFrame_registered (m := .ballast) hm hB, diagOf,
      decodeFor, decodeBallast_byStateCode, payloadOf_zero]
    split_ifs <;> rfl
  rw [if_neg hB]
  by_cases hP : F[1] = 0x01
  · rw [if_pos hP, structuralCheck_registered (m := .propulsion) hm hP, parseFrame_registered (m := .propulsion) hm hP, diagOf,
      decodeFor, decodeProp, vectorOf, le32_eq_append, le32_eq_append]
    rfl
  rw [if_neg hP]
  by_cases hL : F[1] = 0x02
  · rw [if_pos hL, structuralCheck_registered (m := .light) hm hL, parseFrame_registered (m := .light) hm hL, diagOf,
      decodeFor, decodeLight_byStateCode, payloadOf_zero]
    split_ifs <;> rfl
  · rw [if_neg hL, structuralCheck_unknownModule hm ⟨hB, hP, hL⟩, parseFrame_unknownModule hm ⟨hB, hP, hL⟩, diagOf]

/-- Settles O53: the port fields of each answer of PARSE, with the diagnostic kept or dropped. -/
theorem portsShowTheParseAnswer : Obligations.PortsShowTheParseAnswer := by
  unfold Obligations.PortsShowTheParseAnswer
  intro F s hs
  refine ⟨_, parseChecksThenDecodes.2 F s hs, rfl, congrArg some ?_⟩
  unfold shown
  split_ifs <;> rfl

/-! ## The mask and match table -/

/-- A word under a mask of whole bytes is a pattern of those bytes exactly when it agrees with the pattern there (R56). -/
theorem and_mask_eq_iff (w : FrameWord) {mask pattern : FrameWord} (places : List Nat) (inFrame : ∀ i ∈ places, i < 16)
    (hmask : ∀ i < 16, byteOf mask i = if i ∈ places then 0xFF else 0) (hpattern : pattern &&& mask = pattern) :
    w &&& mask = pattern ↔ ∀ i ∈ places, byteOf w i = byteOf pattern i := by
  have kept (v : FrameWord) (i : Nat) (hi : i ∈ places) : byteOf (v &&& mask) i = byteOf v i := by
    rw [byteOf_and, hmask i (inFrame i hi), if_pos hi]
    exact BitVec.and_allOnes
  have cleared (v : FrameWord) (i : Nat) (h16 : i < 16) (hi : i ∉ places) : byteOf (v &&& mask) i = 0 := by
    rw [byteOf_and, hmask i h16, if_neg hi]
    exact BitVec.and_zero
  constructor
  · rintro rfl i hi
    exact (kept w i hi).symm
  · intro agrees
    rw [← hpattern]
    refine eq_of_byteOf_eq (fun i hi => ?_) (by decide)
    by_cases place : i ∈ places
    · rw [kept w i place, kept pattern i place, agrees i place]
    · rw [cleared w i (by omega) place, cleared pattern i (by omega) place]

/-- Settles O3: two rows a word matches agree under both masks, and no two rows of the table do. -/
theorem commandPatternsDisjoint : Obligations.CommandPatternsDisjoint := by
  unfold Obligations.CommandPatternsDisjoint
  intro w r r' hr hr' hmatch hmatch'
  have apart : ∀ a b : Fin commandRows.length, commandRows[a].pattern &&& commandRows[b].mask =
      commandRows[b].pattern &&& commandRows[a].mask → a = b := by decide
  obtain ⟨a, ha, rfl⟩ := List.getElem_of_mem hr
  obtain ⟨b, hb, rfl⟩ := List.getElem_of_mem hr'
  rw [rowMatches, beq_iff_eq] at hmatch hmatch'
  have agree : commandRows[a].pattern &&& commandRows[b].mask = commandRows[b].pattern &&& commandRows[a].mask := by
    rw [← hmatch, ← hmatch', BitVec.and_assoc, BitVec.and_assoc, BitVec.and_comm commandRows[a].mask]
  obtain rfl : a = b := congrArg Fin.val (apart ⟨a, ha⟩ ⟨b, hb⟩ agree)
  rfl

end Sys2Proof.Machine
end

section
/-! PROOFS. The command words (spec 30_encoding.md sections 3 and 4): the mask and match table and the parser are one map (R56, R64,
R119), the decoder inverts the encoder, and a command word is served as PARSE of its frame. -/

namespace Sys2Proof.Machine

open Safety

/-! ## The table is the parser -/

/-- The command word of a command, one per row of the table (R57 to R63). -/
def commandWord : Command → Instr
  | .ballast .idle => .ballastIdle
  | .ballast .intake => .ballastIntake
  | .ballast .discharge => .ballastDischarge
  | .light .off => .lightOff
  | .light .on => .lightOn
  | .light .blink => .lightBlink
  | .propulsion (.setThrust v) => .propSetThrust v

/-- The table's row of a state command: its encoded frame under the state mask (R56). -/
def stateRow (c : Command) : CommandRow := ⟨frameToBus (encodeCommand c), stateMask, fun _ => commandWord c⟩

/-- The table's row of PROP.SETTHRUST (R56). -/
def vecRow : CommandRow := ⟨0x0F00000000000000000000000000010A, vecMask, fun F => .propSetThrust (vectorOf (payloadOf F))⟩

theorem stateRow_instr (c : Command) (F : Frame) : (stateRow c).instr F = commandWord c := rfl

theorem vecRow_instr (F : Frame) : vecRow.instr F = .propSetThrust (vectorOf (payloadOf F)) := rfl

/-- The table of R56: the rows of the six state commands, and that of PROP.SETTHRUST. -/
theorem commandRows_eq :
    commandRows = [stateRow (.ballast .idle), stateRow (.ballast .intake), stateRow (.ballast .discharge),
      stateRow (.light .off), stateRow (.light .on), stateRow (.light .blink), vecRow] := by rfl

/-- A state command's row matches exactly the words that parse to the command (R56, R119). -/
theorem rowMatches_stateRow (w : FrameWord) {c : Command} (hc : c.module ≠ .propulsion) :
    rowMatches w (stateRow c) = true ↔ parseFrame (frameOfBus w) = .ok c := by
  have hpattern : frameToBus (encodeCommand c) &&& stateMask = frameToBus (encodeCommand c) := by
    rcases c with b | l | p
    · cases b <;> decide
    · cases l <;> decide
    · exact absurd rfl hc
  have read (i : Nat) : i < 16 ∧ ¬ ReservedByte c i ↔ i ∈ [0, 1, 2, 15] := by
    simp only [reservedByte_iff, hc, List.mem_cons, List.not_mem_nil, ne_eq, not_false_eq_true, true_and, or_false]
    omega
  rw [rowMatches, beq_iff_eq, stateRow, and_mask_eq_iff w [0, 1, 2, 15] (by decide) (by decide) hpattern,
    parseFrame_eq_ok_iff_agrees]
  constructor
  · intro agrees i hi unreserved
    rw [getElem_frameOfBus, ← byteOf_frameToBus _ i hi]
    exact agrees i ((read i).1 ⟨hi, unreserved⟩)
  · intro agrees i hi
    obtain ⟨h16, unreserved⟩ := (read i).2 hi
    rw [byteOf_frameToBus _ i h16, ← agrees i h16 unreserved, getElem_frameOfBus]
    rfl

/-- A frame parses to a thrust command exactly for its markers and identifier, and the vector is then its payload's (R118, R119). -/
theorem parseFrame_eq_setThrust_iff (F : Frame) (v : DirectionVector) :
    parseFrame F = .ok (.propulsion (.setThrust v)) ↔
      F[0] = 0x0A ∧ F[15] = 0x0F ∧ F[1] = 0x01 ∧ vectorOf (payloadOf F) = v := by
  rw [parseFrame_eq_ok_iff, vectorOf_eq_iff]
  rfl

/-- The row of PROP.SETTHRUST matches exactly the words that parse to a thrust command (R56, R119). -/
theorem rowMatches_vecRow (w : FrameWord) :
    rowMatches w vecRow = true ↔ ∃ v, parseFrame (frameOfBus w) = .ok (.propulsion (.setThrust v)) := by
  have matched := and_mask_eq_iff w (mask := vecRow.mask) (pattern := vecRow.pattern) [0, 1, 15] (by decide) (by decide)
    (by decide)
  rw [rowMatches, beq_iff_eq, matched]
  simp only [parseFrame_eq_setThrust_iff, exists_and_left, exists_eq', and_true, List.forall_mem_cons, List.not_mem_nil,
    false_imp_iff, implies_true]
  rw [and_comm (a := (frameOfBus w)[15] = _)]
  rfl

/-- The class of a frame that PARSE answers so (R64). -/
def frameClass : ParseResult → Except FrameReject Instr
  | .ok c => .ok (commandWord c)
  | .structuralError (.markerMismatch _ _) => .error .badMarker
  | .structuralError (.unknownModule _) => .error .unknownModule
  | .decodeError _ => .error .unknownVariant

/-- A frame that parses to no command is rejected for the error PARSE answers (R64, R119). -/
theorem frameClass_error {F : Frame} (spellsNone : ∀ c, parseFrame F ≠ .ok c) :
    frameClass (parseFrame F) = .error (frameReject F) := by
  unfold frameReject markersGood
  by_cases hm : F[0] ≠ 0x0A ∨ F[15] ≠ 0x0F
  · have bad : (F[0] == Config.START_MARKER && F[15] == Config.END_MARKER) = false := by
      simpa [Decidable.imp_iff_not_or] using hm
    rw [parseFrame_wrongMarker hm, bad]
    rfl
  have good : (F[0] == Config.START_MARKER && F[15] == Config.END_MARKER) = true := by simpa using hm
  rw [good, if_pos rfl]
  by_cases hid : F[1] ≠ 0x00 ∧ F[1] ≠ 0x01 ∧ F[1] ≠ 0x02
  · rw [parseFrame_unknownModule hm hid, if_neg ((not_validId_iff _).2 hid)]
    rfl
  have known : validId F[1] = true := not_not.1 (mt (not_validId_iff _).1 hid)
  obtain ⟨m, hreg⟩ := Option.isSome_iff_exists.1 known
  have parsed := parseFrame_registered hm ((registry_eq_some_iff _ m).1 hreg)
  rw [if_pos known]
  rw [parsed] at spellsNone ⊢
  cases hdec : decodeFor m (payloadOf F) with
  | ok c => exact absurd (congrArg parseOfDecode hdec) (spellsNone c)
  | error e => rfl

/-- A frame word decodes to the command word of what it parses to, or is rejected for the parser's error
(R56, R64, R119). -/
theorem decodeFrame_eq_frameClass (w : FrameWord) : decodeFrame w = frameClass (parseFrame (frameOfBus w)) := by
  have ballastRow (b : BallastCommand) := rowMatches_stateRow w (c := .ballast b) nofun
  have lightRow (l : LightCommand) := rowMatches_stateRow w (c := .light l) nofun
  have thrustRow := rowMatches_vecRow w
  rw [decodeFrame, commandRows_eq]
  by_cases spells : ∃ c, parseFrame (frameOfBus w) = .ok c
  · obtain ⟨c, answer⟩ := spells
    rcases c with b | l | ⟨⟨v⟩⟩
    · cases b <;> simp [ballastRow, answer, frameClass, stateRow_instr]
    · cases l <;> simp [ballastRow, lightRow, answer, frameClass, stateRow_instr]
    · obtain ⟨-, -, -, hv⟩ := (parseFrame_eq_setThrust_iff _ v).1 answer
      simp [ballastRow, lightRow, thrustRow, answer, frameClass, commandWord, vecRow_instr, hv]
  · have noCommand (c : Command) : parseFrame (frameOfBus w) ≠ .ok c := fun answer => spells ⟨c, answer⟩
    simp [ballastRow, lightRow, thrustRow, noCommand, frameClass_error noCommand]

/-- Settles O4: the decoder's answer is the class of PARSE's, which the markers, the module byte and the state byte decide. -/
theorem everyFrameInExactlyOneClass : Obligations.EveryFrameInExactlyOneClass := by
  unfold Obligations.EveryFrameInExactlyOneClass
  intro w
  have thrust : vectorOf (payloadOf (frameOfBus w)) = { x := w.extractLsb' 16 32, y := w.extractLsb' 48 32 } := by
    rw [← le32_byteOf w 2, ← le32_byteOf w 6]
    rfl
  rw [decodeFrame_eq_frameClass]
  generalize hF : frameOfBus w = F at *
  have start : w.extractLsb' 0 8 = F[0] := by subst hF; rfl
  have ending : w.extractLsb' 120 8 = F[15] := by subst hF; rfl
  have identifier : w.extractLsb' 8 8 = F[1] := by subst hF; rfl
  have code : w.extractLsb' 16 8 = F[2] := by subst hF; rfl
  rw [start, ending, identifier, code]
  by_cases hm : F[0] ≠ 0x0A ∨ F[15] ≠ 0x0F
  · rw [if_pos hm, parseFrame_wrongMarker hm, frameClass]
  rw [if_neg hm]
  by_cases hP : F[1] = 0x01
  · rw [if_pos hP, parseFrame_registered (m := .propulsion) hm hP, decodeFor, decodeProp, thrust]
    rfl
  rw [if_neg hP]
  by_cases hB : F[1] = 0x00
  · rw [if_pos hB, parseFrame_registered (m := .ballast) hm hB, decodeFor, decodeBallast_byStateCode, payloadOf_zero]
    split_ifs <;> rfl
  rw [if_neg hB]
  by_cases hL : F[1] = 0x02
  · rw [if_pos hL, parseFrame_registered (m := .light) hm hL, decodeFor, decodeLight_byStateCode, payloadOf_zero]
    split_ifs <;> rfl
  · rw [if_neg hL, parseFrame_unknownModule hm ⟨hB, hP, hL⟩, frameClass]

/-! ## Decoding an encoding -/

/-- The encoded frame of a command parses to it (R120). -/
theorem parseFrame_encodeCommand (c : Command) : parseFrame (encodeCommand c) = .ok c :=
  (parseFrame_eq_ok_iff_agrees _ c).2 fun _ _ _ => rfl

/-- The encoded frame of a command, received, spells its command word (R56). -/
theorem decode_encodedFrame (c : Command) : decode (.frame (frameToBus (encodeCommand c))) = .ok (commandWord c) := by
  rw [decode, decodeFrame_eq_frameClass, frameOfBus_frameToBus, parseFrame_encodeCommand]
  rfl

/-- An ENCODE request built from a module and a variant code is read by them. -/
theorem decodeSReq_sReqWord_encode (m v : BitVec 2) (x y : W32) :
    decodeSReq (sReqWord 1 m v x y) = decodeEncodeReq (sReqWord 1 m v x y) :=
  decodeSReq_encode (sOp_sReqWord 1 m v x y)

/-- Settles O2: command words through PARSE of their canonical frame, request words through the fields they were built from. -/
theorem decodeOfEncodeIsIdentity : Obligations.DecodeOfEncodeIsIdentity := by
  unfold Obligations.DecodeOfEncodeIsIdentity
  intro i
  cases i with
  | ballastIdle => exact decode_encodedFrame (.ballast .idle)
  | ballastIntake => exact decode_encodedFrame (.ballast .intake)
  | ballastDischarge => exact decode_encodedFrame (.ballast .discharge)
  | lightOff => exact decode_encodedFrame (.light .off)
  | lightOn => exact decode_encodedFrame (.light .on)
  | lightBlink => exact decode_encodedFrame (.light .blink)
  | propSetThrust v => exact decode_encodedFrame (.propulsion (.setThrust v))
  | lookup id => rw [encode, decode, decodePReq_lookup (pOp_pReqWord _ _), pModuleId_pReqWord]; rfl
  | validate F => rw [encode, decode, decodePReq_validate (pOp_pReqWord _ _), pFrame_pReqWord]; rfl
  | decBallast P => rw [encode, decode, decodePReq_decBallast (pOp_pReqWord _ _), pPayload_pReqWord]; rfl
  | decProp P => rw [encode, decode, decodePReq_decProp (pOp_pReqWord _ _), pPayload_pReqWord]; rfl
  | decLight P => rw [encode, decode, decodePReq_decLight (pOp_pReqWord _ _), pPayload_pReqWord]; rfl
  | parse F => rw [encode, decode, decodePReq_parse (pOp_pReqWord _ _), pFrame_pReqWord]; rfl
  | template => rw [encode, decode, decodeSReq_template (sOp_sReqWord _ _ _ _ _)]; rfl
  | checksum => rw [encode, decode, decodeSReq_checksum (sOp_sReqWord _ _ _ _ _)]; rfl
  | encBallast c =>
    have moduleField := sCmdModule_sReqWord 1 (modulePort .ballast) (ballastPort c) 0 0
    rw [encode, decode, decodeSReq_sReqWord_encode, decodeEncodeReq_ballast moduleField, sCmdVariant_sReqWord]
    cases c <;> rfl
  | encLight c =>
    have moduleField := sCmdModule_sReqWord 1 (modulePort .light) (lightPort c) 0 0
    rw [encode, decode, decodeSReq_sReqWord_encode, decodeEncodeReq_light moduleField, sCmdVariant_sReqWord]
    cases c <;> rfl
  | encProp c =>
    obtain ⟨v⟩ := c
    have moduleField := sCmdModule_sReqWord 1 (modulePort .propulsion) 0 v.x v.y
    rw [encode, decode, decodeSReq_sReqWord_encode, decodeEncodeReq_prop moduleField (sCmdVariant_sReqWord _ _ _ _ _),
      sCmdX_sReqWord, sCmdY_sReqWord]
    rfl

/-- Settles O1: the decoder evaluated on each word. -/
theorem writtenOutWordsDecode : Obligations.WrittenOutWordsDecode := by
  unfold Obligations.WrittenOutWordsDecode
  decide

/-! ## Command words executed -/

/-- A command word is served as PARSE of its canonical frame (R57 to R63). -/
theorem exec_commandWord (c : Command) (s : State) : exec (commandWord c) s = exec (.parse (encodeCommand c)) s := by
  rcases c with b | l | ⟨⟨v⟩⟩
  · cases b <;> rfl
  · cases l <;> rfl
  · rfl

/-- PARSE in any state, its answer written as a function of the frame (R119). -/
theorem exec_parse (F : Frame) (s : State) :
    exec (.parse F) s = serveP s fun s =>
      s.respondP (.parsed (parseFrame F) (shown s.params (diagOf (structuralCheck F)))) := rfl

/-- A frame that parses to a command passes the checks (R119). -/
theorem structuralCheck_of_parses {F : Frame} {c : Command} (parses : parseFrame F = .ok c) : structuralCheck F = none := by
  obtain ⟨hstart, hend, hid, -⟩ := (parseFrame_eq_ok_iff F c).1 parses
  exact (structuralCheck_eq_none_iff F).2 ⟨hstart, hend, _, (registry_eq_some_iff _ _).2 hid⟩

/-- Frames that parse to one command are served alike, whatever their reserved bytes hold (R56). -/
theorem exec_parse_congr {F G : Frame} {c : Command} (hF : parseFrame F = .ok c) (hG : parseFrame G = .ok c) (s : State) :
    exec (.parse F) s = exec (.parse G) s := by
  rw [exec_parse, exec_parse, hF, hG, structuralCheck_of_parses hF, structuralCheck_of_parses hG]

/-- Settles O31: each word is PARSE of its encoded frame, which parses to the command. -/
theorem commandWordsAnswerTheirCommand : Obligations.CommandWordsAnswerTheirCommand := by
  unfold Obligations.CommandWordsAnswerTheirCommand
  intro s hs
  have answer (c : Command) :
      exec (commandWord c) s = .next { s with pRsp := some (.parsed (.ok c) (shown s.params .passed)) } :=
    (exec_commandWord c s).trans ((exec_parse_ok_iff _ c hs).2 (parseFrame_encodeCommand c))
  exact ⟨answer (.ballast .idle), answer (.ballast .intake), answer (.ballast .discharge), answer (.light .off),
    answer (.light .on), answer (.light .blink), fun v => answer (.propulsion (.setThrust v))⟩

/-- Settles O32: the decoder's answer is the class of PARSE's, and a command word does what PARSE of its canonical frame does. -/
theorem commandTableAgreesWithParser : Obligations.CommandTableAgreesWithParser := by
  unfold Obligations.CommandTableAgreesWithParser
  intro w
  rw [decodeFrame_eq_frameClass]
  cases answer : parseFrame (frameOfBus w) with
  | ok c =>
    refine ⟨?_, nofun, nofun, nofun⟩
    rintro i ⟨⟩
    exact ⟨fun s => (exec_commandWord c s).trans (exec_parse_congr (parseFrame_encodeCommand c) answer s), c, rfl⟩
  | structuralError e =>
    cases e with
    | markerMismatch a b => exact ⟨nofun, fun _ => ⟨a, b, rfl⟩, nofun, nofun⟩
    | unknownModule id => exact ⟨nofun, nofun, fun _ => ⟨id, rfl⟩, nofun⟩
  | decodeError e => exact ⟨nofun, nofun, nofun, fun _ => ⟨e, rfl⟩⟩

end Sys2Proof.Machine
end

section
/-! PROOFS. The operations together (spec 42_validator.md, 43_encode.md, 44_decode.md): what the encoders write the Validator accepts and
the decoders read back (R120), PARSE against VALIDATE and the payload decoders (R119, R163), the bytes each reads (D17), and the
two operations that can set FAULT (R102, R104). -/

namespace Sys2Proof.Machine

open Safety

/-! ## Encoded frames -/

/-- The template is the encoded frame of Ballast Idle (R85, R100). -/
theorem templateFrame_eq_encodeCommand : templateFrame = encodeCommand (.ballast .idle) := by decide

/-- With FAULT 0 VALIDATE accepts every encoded frame (R90, R105). -/
theorem exec_validate_encodeCommand (c : Command) {s : State} (hs : s.fault = false) :
    exec (.validate (encodeCommand c)) s =
      .next { s with pRsp := some (.validated true (shown s.params .passed)) } := by
  rw [exec_validate_running _ hs, structuralCheck_of_parses (parseFrame_encodeCommand c)]
  rfl

/-- With FAULT 0 PARSE reads every encoded frame back (R120). -/
theorem exec_parse_encodeCommand (c : Command) {s : State} (hs : s.fault = false) :
    exec (.parse (encodeCommand c)) s =
      .next { s with pRsp := some (.parsed (.ok c) (shown s.params .passed)) } :=
  (exec_parse_ok_iff _ c hs).2 (parseFrame_encodeCommand c)

/-- With FAULT 0 a module's payload decoder answers its payload's decoding and changes nothing else (R116 to R118). -/
theorem exec_decodeInstr_running (m : Module) (P : Payload) {s : State} (hs : s.fault = false) :
    exec (decodeInstr m P) s = .next { s with pRsp := some (.decoded (decodeFor m P)) } := by
  cases m with
  | ballast => exact exec_decBallast_running P hs
  | light => exact exec_decLight_running P hs
  | propulsion => exact exec_decProp_running P hs

/-- With FAULT 0, where it is not implemented, ENC.LIGHT sets FAULT and leaves its cause (R102, R143). -/
theorem exec_encLight_unimplemented (c : LightCommand) {s : State} (hs : s.fault = false)
    (hl : s.params.LIGHT_ENCODE_IMPLEMENTED = false) : exec (.encLight c) s = .next (s.raiseUnimplemented .lightEncode) := by
  rw [exec, execEncLight, serveS_running hs, hl]
  rfl

/-- With FAULT 0 CHECKSUM sets FAULT and leaves its cause (R104, R143). -/
theorem exec_checksum_running {s : State} (hs : s.fault = false) :
    exec .checksum s = .next (s.raiseUnimplemented .checksum) :=
  serveS_running (act := (·.raiseUnimplemented .checksum)) hs

/-- Settles O12: the template is an encoded frame, and the parser operations read any such. -/
theorem templateIsTheBallastIdleFrame : Obligations.TemplateIsTheBallastIdleFrame := by
  unfold Obligations.TemplateIsTheBallastIdleFrame
  intro s hs
  refine ⟨encodeCommand (.ballast .idle), ?_, exec_encBallast_running .idle hs, exec_validate_encodeCommand _ hs,
    exec_parse_encodeCommand _ hs⟩
  rw [exec_template_running hs, templateFrame_eq_encodeCommand]

/-- Settles O17: the decoder's variant field, the encoded frame of each variant, and FAULT where the encoder is missing. -/
theorem encLightFramesOrFault : Obligations.EncLightFramesOrFault := by
  unfold Obligations.EncLightFramesOrFault
  refine ⟨fun w hop hm => (decodeSReq_encode hop).trans (decodeEncodeReq_light hm), fun c s hs hl => ?_,
    fun c s hs hl => exec_encLight_unimplemented c hs hl⟩
  rw [exec_encLight_running c hs hl, encodeCommand_light]
  cases c <;> rfl

/-- Settles O19: the decoder's field, and the exception CHECKSUM takes. -/
theorem checksumAlwaysSetsFault : Obligations.ChecksumAlwaysSetsFault := by
  unfold Obligations.ChecksumAlwaysSetsFault
  exact ⟨fun w hop => decodeSReq_checksum hop, fun s hs => exec_checksum_running hs⟩

/-- Settles O21: an encoder that answers presents the encoded frame, which VALIDATE accepts; a missing one answers nothing. -/
theorem encodedFramesAreValid : Obligations.EncodedFramesAreValid := by
  unfold Obligations.EncodedFramesAreValid
  intro c s t F hs hexec hrsp
  by_cases implemented : c.module = .light → s.params.LIGHT_ENCODE_IMPLEMENTED = true
  · rw [exec_encodeInstr_running c hs implemented] at hexec
    cases hexec
    cases hrsp
    exact exec_validate_encodeCommand c hs
  · obtain ⟨hc, missing⟩ := Classical.not_imp.1 implemented
    cases c with
    | ballast c => cases hc
    | propulsion c => cases hc
    | light l =>
      rw [encodeInstr, exec_encLight_unimplemented l hs (by simpa using missing)] at hexec
      cases hexec
      cases hrsp

/-- Settles O27: the encoded frame's payload is what the command's decoder reads, and the frame what PARSE reads. -/
theorem decodeOfEncodedCommandRoundTrips : Obligations.DecodeOfEncodedCommandRoundTrips := by
  unfold Obligations.DecodeOfEncodedCommandRoundTrips
  intro c s hs implemented
  refine ⟨encodeCommand c, exec_encodeInstr_running c hs implemented, ?_, exec_parse_encodeCommand c hs⟩
  have decodes : decodeFor c.module (payloadOf (encodeCommand c)) = .ok c :=
    (decodeFor_eq_ok_iff _ _ c).2 ⟨rfl, payloadFields_prefix_encodeCommand c⟩
  rw [← payloadOf, exec_decodeInstr_running _ _ hs, decodes]

/-! ## The operations against each other -/

/-- PARSE answers a structural error exactly where the checks fail, and then that error (R119). -/
theorem parseFrame_eq_structuralError_iff (F : Frame) (e : StructuralError) :
    parseFrame F = .structuralError e ↔ structuralCheck F = some e := by
  unfold parseFrame
  cases hcheck : structuralCheck F with
  | some e' => simp
  | none =>
    obtain ⟨-, -, m, hid⟩ := (structuralCheck_eq_none_iff F).1 hcheck
    rw [hid]
    cases hdec : decodeFor m (payloadOf F) <;> simp [hdec, parseOfDecode]

/-- Where the checks pass PARSE answers what the frame's decoder does (R119, R163). -/
theorem parseFrame_matched {F : Frame} {m : Module} {P : Payload} (h : matchedDecode F m P) :
    parseFrame F = parseOfDecode (decodeFor m P) := by
  obtain ⟨passes, hid, rfl⟩ := h
  simp only [parseFrame, passes, hid]

/-- Settles O26: both answers carry the diagnostic of the one outcome of the checks, and PARSE answers a structural error exactly
where they fail. -/
theorem parseAndValidateAgree : Obligations.ParseAndValidateAgree := by
  unfold Obligations.ParseAndValidateAgree
  intro F s tv tp valid dv dp r hs hv hvrsp hp hprsp
  rw [exec_validate_running F hs] at hv
  rw [exec_parse_running F hs] at hp
  cases hv; cases hp; cases hvrsp; cases hprsp
  refine ⟨rfl, ?_⟩
  cases answer : parseFrame F with
  | ok c =>
    simp [structuralCheck_of_parses answer]
  | structuralError e =>
    simp [(parseFrame_eq_structuralError_iff F e).1 answer]
  | decodeError e =>
    have passes : structuralCheck F = none := by
      rw [Option.eq_none_iff_forall_ne_some]
      intro e' fails
      rw [← parseFrame_eq_structuralError_iff, answer] at fails
      cases fails
    simp [passes]

/-- Settles O30: under the premises PARSE's answer is the decoder's, `Ok` or error. -/
theorem matchedDecodeAgreesWithParse : Obligations.MatchedDecodeAgreesWithParse := by
  unfold Obligations.MatchedDecodeAgreesWithParse
  intro F m P s td tp r r' d hs hmatched hd hdrsp hp hprsp
  rw [exec_decodeInstr_running m P hs] at hd
  rw [exec_parse_running F hs, parseFrame_matched hmatched] at hp
  cases hd; cases hp; cases hdrsp; cases hprsp
  cases decodeFor m P <;> simp [parseOfDecode]

/-- Settles O15: the Boolean is the outcome of the checks, which reads no parameter; the port fields are read off. -/
theorem diagnosticIsAdvisory : Obligations.DiagnosticIsAdvisory := by
  unfold Obligations.DiagnosticIsAdvisory
  refine ⟨fun F s t t' p ht ht' => ?_, fun _ _ _ _ => ⟨rfl, rfl, rfl, rfl⟩⟩
  have okOfPorts (valid : Bool) (d : Option Diag) : (portsOf (.validated valid d)).ok = valid := by
    rcases d with _ | _ | _ | _ <;> rfl
  rw [exec_validate] at ht ht'
  rcases serveP_cases ht with ⟨running, rfl⟩ | ⟨faulted, rfl⟩ <;>
    rcases serveP_cases ht' with ⟨running', rfl⟩ | ⟨faulted', rfl⟩
  · simp [State.pPorts, okOfPorts]
  · cases running.symm.trans faulted'
  · cases faulted.symm.trans running'
  · rfl

/-! ## The bytes an operation reads -/

/-- With equal state codes DEC.BALLAST and DEC.LIGHT answer alike (R116, R117). -/
theorem decodeState_congr {P Q : Payload} (code : P[0] = Q[0]) :
    decodeBallast P = decodeBallast Q ∧ decodeLight P = decodeLight Q := by
  simp only [decodeBallast, decodeLight, stateCode, code, and_self]

/-- The parser reads bytes 0, 1, 15 and 2, and under the Propulsion identifier bytes 3 to 9 (R119, D17). -/
theorem parseFrame_congr {F G : Frame} (hstart : F[0] = G[0]) (hid : F[1] = G[1]) (hend : F[15] = G[15]) (hcode : F[2] = G[2])
    (hvec : F[1] = 0x01 → vectorOf (payloadOf F) = vectorOf (payloadOf G)) : parseFrame F = parseFrame G := by
  rw [parseFrame, parseFrame, structuralCheck_congr hstart hid hend, ← hid]
  have states := decodeState_congr (P := payloadOf F) (Q := payloadOf G) hcode
  cases hreg : registry F[1] with
  | none => rfl
  | some m =>
    cases m with
    | ballast => simp only [decodeFor, states]
    | light => simp only [decodeFor, states]
    | propulsion => simp only [decodeFor, decodeProp, hvec ((registry_eq_some_iff _ _).1 hreg)]

/-- Settles O29: each answer is a function of the bytes named. -/
theorem reservedBytesChangeNoResult : Obligations.ReservedBytesChangeNoResult := by
  unfold Obligations.ReservedBytesChangeNoResult
  refine ⟨fun F G s hstart hid hend hcode hcomponents => ?_, fun P Q s hcode => ?_,
    fun P Q s h0 h1 h2 h3 h4 h5 h6 h7 => ?_⟩
  · have sameVector (hP : F[1] = 0x01) : vectorOf (payloadOf F) = vectorOf (payloadOf G) := by
      obtain ⟨h3, h4, h5, h6, h7, h8, h9⟩ := hcomponents hP
      simp [vectorOf, payloadOf, hcode, h3, h4, h5, h6, h7, h8, h9]
    rw [exec_parse, exec_parse, parseFrame_congr hstart hid hend hcode sameVector, structuralCheck_congr hstart hid hend]
  · obtain ⟨sameBallast, sameLight⟩ := decodeState_congr hcode
    simp only [exec, execDecBallast, execDecLight, sameBallast, sameLight, and_self]
  · simp only [exec, execDecProp, decodeProp, vectorOf, h0, h1, h2, h3, h4, h5, h6, h7]

end Sys2Proof.Machine
end

section
/-! PROOFS. What an instruction can do (spec 10_state.md sections 3 and 6, 60_exceptions.md section 4): the frame or the response an
agent gives and its legality (R105, R135), the two exceptions (R138), and that the agents' moves commute (R21). -/

namespace Sys2Proof.Machine

open Safety

/-! ## Legal answers -/

/-- Every encoded frame has the shape R105 gives it. -/
theorem frameShape_encodeCommand (c : Command) : frameShape (encodeCommand c) = true := by
  have fixed := getElem_encodeCommand_fixed c
  have start : (encodeCommand c)[0] = 0x0A := fixed 0 (by decide) (by decide)
  have ending : (encodeCommand c)[15] = 0x0F := fixed 15 (by decide) (by decide)
  have checksum : (encodeCommand c)[14] = 0x00 := fixed 14 (by decide) (by decide)
  rw [frameShape, start, ending, checksum, encodeCommand_moduleByte]
  cases c.module <;> rfl

/-- An error the checks report is one they can have found (R135). -/
theorem structuralErrorLegal_of_check {F : Frame} {e : StructuralError} (fails : structuralCheck F = some e) :
    structuralErrorLegal e = true := by
  by_cases hm : F[0] ≠ 0x0A ∨ F[15] ≠ 0x0F
  · rw [structuralCheck_wrongMarker hm] at fails
    cases fails
    simpa [structuralErrorLegal] using hm
  · rw [structuralCheck_rightMarkers hm] at fails
    split_ifs at fails with hv
    cases fails
    simpa [structuralErrorLegal, and_assoc] using (not_validId_iff _).1 hv

/-- A state command's decode error with a discriminant that is no code is legal (R137). -/
theorem decodeErrorLegal_of_noCode {m : Module} (hm : m ≠ .propulsion) {b : Byte} (noCode : b ≠ 0 ∧ b ≠ 1 ∧ b ≠ 2) :
    decodeErrorLegal { module := m, discriminant := b } = true := by
  simpa [decodeErrorLegal, and_assoc, hm] using noCode

/-- An error a payload decoder reports is of a state command's module, with a discriminant that is no code (R135, R137). -/
theorem decodeErrorLegal_of_decode {m : Module} {P : Payload} {e : DecodeError} (fails : decodeFor m P = .error e) :
    decodeErrorLegal e = true := by
  cases m with
  | ballast =>
    rw [decodeFor, decodeBallast_byStateCode] at fails
    split_ifs at fails with h0 h1 h2
    cases fails
    exact decodeErrorLegal_of_noCode (by decide) ⟨h0, h1, h2⟩
  | light =>
    rw [decodeFor, decodeLight_byStateCode] at fails
    split_ifs at fails with h0 h1 h2
    cases fails
    exact decodeErrorLegal_of_noCode (by decide) ⟨h0, h1, h2⟩
  | propulsion => cases fails

/-- The diagnostic shown is the one of the checks, or none (R94). -/
theorem diagAgrees_shown (check : Option StructuralError) (p : Config.Params) :
    diagAgrees check (shown p (diagOf check)) = true := by
  unfold shown
  split <;> simp [diagAgrees]

/-- VALIDATE's answer is legal (R90, R94). -/
theorem pResponseLegal_validated (F : Frame) (p : Config.Params) :
    pResponseLegal (.validated (structuralCheck F).isNone (shown p (diagOf (structuralCheck F)))) = true := by
  have agrees := diagAgrees_shown (structuralCheck F) p
  cases hcheck : structuralCheck F with
  | none => rwa [hcheck] at agrees
  | some e => cases e <;> unfold shown <;> split <;> rfl

/-- A payload decoder's answer is legal (R116 to R118). -/
theorem pResponseLegal_decoded (m : Module) (P : Payload) : pResponseLegal (.decoded (decodeFor m P)) = true := by
  cases answer : decodeFor m P with
  | ok c => rfl
  | error e => exact decodeErrorLegal_of_decode answer

/-- PARSE's answer is legal (R119). -/
theorem pResponseLegal_parsed (F : Frame) (p : Config.Params) :
    pResponseLegal (.parsed (parseFrame F) (shown p (diagOf (structuralCheck F)))) = true := by
  have agrees := diagAgrees_shown (structuralCheck F) p
  unfold parseFrame
  cases hcheck : structuralCheck F with
  | some e =>
    rw [hcheck] at agrees
    simp [pResponseLegal, structuralErrorLegal_of_check hcheck, agrees]
  | none =>
    rw [hcheck] at agrees
    obtain ⟨-, -, m, hid⟩ := (structuralCheck_eq_none_iff F).1 hcheck
    rw [hid]
    cases answer : decodeFor m (payloadOf F) with
    | ok c => simpa [answer, parseOfDecode, pResponseLegal] using agrees
    | error e => simp [answer, parseOfDecode, pResponseLegal, decodeErrorLegal_of_decode answer, agrees]

/-! ## The parser's instructions -/

/-- The instruction is served by the P agent, with a legal response to its operands and the parameters. -/
def AnsweredByParser (i : Instr) : Prop :=
  ∃ r : Config.Params → PResponse, (∀ p, pResponseLegal (r p) = true) ∧
    ∀ s, exec i s = serveP s fun s => s.respondP (r s.params)

theorem answeredByParser_parse (F : Frame) : AnsweredByParser (.parse F) :=
  ⟨_, pResponseLegal_parsed F, exec_parse F⟩

theorem answeredByParser_commandWord (c : Command) : AnsweredByParser (commandWord c) := by
  obtain ⟨r, legal, served⟩ := answeredByParser_parse (encodeCommand c)
  exact ⟨r, legal, fun s => (exec_commandWord c s).trans (served s)⟩

theorem answeredByParser_decodeInstr (m : Module) (P : Payload) : AnsweredByParser (decodeInstr m P) := by
  refine ⟨fun _ => .decoded (decodeFor m P), fun _ => pResponseLegal_decoded m P, fun s => ?_⟩
  cases m <;> rfl

/-- Every instruction of the P channel is served so (R21, R142). -/
theorem answeredByParser {i : Instr} (hc : i.channel = .P) : AnsweredByParser i := by
  cases i with
  | template => cases hc
  | encBallast c => cases hc
  | encLight c => cases hc
  | encProp c => cases hc
  | checksum => cases hc
  | lookup id => exact ⟨fun _ => .looked (registry id), fun _ => rfl, fun _ => rfl⟩
  | validate F => exact ⟨_, pResponseLegal_validated F, exec_validate F⟩
  | decBallast P => exact answeredByParser_decodeInstr .ballast P
  | decProp P => exact answeredByParser_decodeInstr .propulsion P
  | decLight P => exact answeredByParser_decodeInstr .light P
  | parse F => exact answeredByParser_parse F
  | ballastIdle => exact answeredByParser_commandWord (.ballast .idle)
  | ballastIntake => exact answeredByParser_commandWord (.ballast .intake)
  | ballastDischarge => exact answeredByParser_commandWord (.ballast .discharge)
  | lightOff => exact answeredByParser_commandWord (.light .off)
  | lightOn => exact answeredByParser_commandWord (.light .on)
  | lightBlink => exact answeredByParser_commandWord (.light .blink)
  | propSetThrust v => exact answeredByParser_commandWord (.propulsion (.setThrust v))

/-! ## The serializer's instructions -/

/-- What the S agent leaves: the frame, if it has one to present, unless the instruction takes Unimplemented (R102, R104, R143). -/
def State.serialized (s : State) (F : Option Frame) : Option Unimplemented → State
  | none => { s with sRsp := F }
  | some cause => s.raiseUnimplemented cause

/-- The exceptions of the serializer, by instruction and cause (R102, R104, R138). -/
theorem raises_eq_some_iff (p : Config.Params) (i : Instr) (cause : Unimplemented) :
    raises p i = some cause ↔
      (i = .checksum ∧ cause = .checksum) ∨
        ((∃ c, i = .encLight c) ∧ p.LIGHT_ENCODE_IMPLEMENTED = false ∧ cause = .lightEncode) := by
  cases i with
  | checksum => simpa [raises] using eq_comm
  | encLight c =>
    cases hl : p.LIGHT_ENCODE_IMPLEMENTED with
    | true => simp [raises, hl]
    | false => simpa [raises, hl] using eq_comm
  | _ => simp [raises]

/-- Every instruction of the S channel is served by the S agent: it presents a frame of the encoder's shape unless it raises
Unimplemented (R21, R105). -/
theorem exec_serializer_legal {i : Instr} (hc : i.channel = .S) :
    ∃ F : Frame, frameShape F = true ∧
      ∀ s, exec i s = serveS s fun s => s.serialized (some F) (raises s.params i) := by
  cases i with
  | template =>
    exact ⟨templateFrame, templateFrame_eq_encodeCommand ▸ frameShape_encodeCommand (.ballast .idle), fun _ => rfl⟩
  | encBallast c => exact ⟨_, frameShape_encodeCommand (.ballast c), fun _ => rfl⟩
  | encProp c => exact ⟨_, frameShape_encodeCommand (.propulsion c), fun _ => rfl⟩
  | checksum =>
    exact ⟨templateFrame, templateFrame_eq_encodeCommand ▸ frameShape_encodeCommand (.ballast .idle), fun _ => rfl⟩
  | encLight c =>
    refine ⟨_, frameShape_encodeCommand (.light c), fun s => ?_⟩
    cases hl : s.params.LIGHT_ENCODE_IMPLEMENTED <;>
      simp [exec, execEncLight, serveS, raises, hl, State.serialized, State.respondS]
  | lookup id => cases hc
  | validate F => cases hc
  | decBallast P => cases hc
  | decProp P => cases hc
  | decLight P => cases hc
  | parse F => cases hc
  | ballastIdle => cases hc
  | ballastIntake => cases hc
  | ballastDischarge => cases hc
  | lightOff => cases hc
  | lightOn => cases hc
  | lightBlink => cases hc
  | propSetThrust v => cases hc

/-- No instruction of the P channel raises Unimplemented (R142). -/
theorem raises_parser {i : Instr} (hc : i.channel = .P) (p : Config.Params) : raises p i = none := by
  rw [Option.eq_none_iff_forall_ne_some]
  intro cause h
  rcases (raises_eq_some_iff p i cause).1 h with ⟨rfl, -⟩ | ⟨⟨c, rfl⟩, -⟩ <;> cases hc

/-- With FAULT 0 an instruction of the S channel presents its frame or takes its exception. -/
theorem exec_serializer_running {i : Instr} (hc : i.channel = .S) {s : State} (hs : s.fault = false) :
    ∃ F : Frame, exec i s = .next (s.serialized (some F) (raises s.params i)) := by
  obtain ⟨F, -, served⟩ := exec_serializer_legal hc
  exact ⟨F, (served s).trans (serveS_running hs)⟩

/-- With FAULT 1 an instruction of the S channel is not served (R15). -/
theorem exec_serializer_faulted {i : Instr} (hc : i.channel = .S) {s : State} (hs : s.fault = true) :
    exec i s = .next s.silenceS := by
  obtain ⟨F, -, served⟩ := exec_serializer_legal hc
  exact (served s).trans (serveS_faulted hs)

/-- With FAULT 0 an instruction of the P channel gives its response and changes nothing else. -/
theorem exec_parser_running {i : Instr} (hc : i.channel = .P) {s : State} (hs : s.fault = false) :
    ∃ r : PResponse, exec i s = .next (s.respondP r) := by
  obtain ⟨r, -, served⟩ := answeredByParser hc
  exact ⟨r s.params, (served s).trans (serveP_running hs)⟩

/-- With FAULT 1 an instruction of the P channel is not served (R15). -/
theorem exec_parser_faulted {i : Instr} (hc : i.channel = .P) {s : State} (hs : s.fault = true) :
    exec i s = .next s.silenceP := by
  obtain ⟨r, -, served⟩ := answeredByParser hc
  exact (served s).trans (serveP_faulted hs)

/-! ## The statements -/

/-- Settles O34: each agent refuses its channel while FAULT is 1. -/
theorem faultedBlockServesNothing : Obligations.FaultedBlockServesNothing := by
  unfold Obligations.FaultedBlockServesNothing
  intro i s hs
  cases hc : i.channel with
  | S => exact exec_serializer_faulted hc hs
  | P => exact exec_parser_faulted hc hs

/-- Settles O35: a serializer instruction that raises nothing presents a frame, and no parser instruction raises anything. -/
theorem onlyChecksumAndUnimplementedLightSetFault : Obligations.OnlyChecksumAndUnimplementedLightSetFault := by
  unfold Obligations.OnlyChecksumAndUnimplementedLightSetFault
  intro i s hs
  have raising : (raises s.params i).isSome = true ↔
      i = .checksum ∨ (s.params.LIGHT_ENCODE_IMPLEMENTED = false ∧ ∃ c, i = .encLight c) := by
    simp [Option.isSome_iff_exists, raises_eq_some_iff, exists_or, and_comm]
  rw [← raising]
  cases hc : i.channel with
  | S =>
    obtain ⟨F, left⟩ := exec_serializer_running hc hs
    refine ⟨_, left, ?_⟩
    cases raises s.params i <;> simp [State.serialized, hs]
  | P =>
    obtain ⟨r, left⟩ := exec_parser_running hc hs
    exact ⟨_, left, by simp [raises_parser hc, hs], fun _ => ⟨r, rfl⟩⟩

/-- Settles O36: an agent writes its own response only, and the serializer's exceptions are those of `raises`. -/
theorem instructionsChangeOnlyTheirChannel : Obligations.InstructionsChangeOnlyTheirChannel := by
  unfold Obligations.InstructionsChangeOnlyTheirChannel
  intro i s t hexec
  refine ⟨fun hc => ?_, fun hc => ?_⟩
  · obtain ⟨r, -, served⟩ := answeredByParser hc
    rcases serveP_cases ((served s).symm.trans hexec) with ⟨-, rfl⟩ | ⟨-, rfl⟩ <;> rfl
  · obtain ⟨F, -, served⟩ := exec_serializer_legal hc
    rcases serveS_cases ((served s).symm.trans hexec) with ⟨running, rfl⟩ | ⟨-, rfl⟩
    · cases hr : raises s.params i with
      | none => exact .inl rfl
      | some cause =>
        rcases (raises_eq_some_iff _ _ _).1 hr with ⟨hi, rfl⟩ | ⟨hi, hl, rfl⟩
        · exact .inr (.inl ⟨running, hi, rfl⟩)
        · exact .inr (.inr ⟨running, hl, hi, rfl⟩)
    · exact .inl rfl

/-- Settles O43: unless S raises Unimplemented, each agent writes its own response and reads what the other leaves alone. -/
theorem serializerAndParserCommute : Obligations.SerializerAndParserCommute := by
  unfold Obligations.SerializerAndParserCommute
  intro i j s ti tj hi hj quiet hexeci hexecj
  obtain ⟨F, -, servedS⟩ := exec_serializer_legal hi
  obtain ⟨r, -, servedP⟩ := answeredByParser hj
  rw [servedS] at hexeci ⊢
  rw [servedP] at hexecj ⊢
  cases hs : s.fault with
  | true =>
    rw [serveS_faulted hs] at hexeci
    rw [serveP_faulted hs] at hexecj
    cases hexeci; cases hexecj
    have onS : s.silenceS.fault = true := hs
    have onP : s.silenceP.fault = true := hs
    rw [serveP_faulted onS, serveS_faulted onP]
    rfl
  | false =>
    have raisesNone : raises s.params i = none := by
      obtain ⟨notChecksum, light⟩ := quiet hs
      rw [Option.eq_none_iff_forall_ne_some]
      intro cause h
      rcases (raises_eq_some_iff _ _ _).1 h with ⟨rfl, -⟩ | ⟨⟨c, rfl⟩, hl, -⟩
      · exact notChecksum rfl
      · rcases light with implemented | other
        · cases hl.symm.trans implemented
        · exact other c rfl
    rw [serveS_running hs, raisesNone] at hexeci
    rw [serveP_running hs] at hexecj
    cases hexeci; cases hexecj
    have onS : (s.serialized (some F) none).fault = false := hs
    have onP : (s.respondP (r s.params)).fault = false := hs
    rw [serveP_running onS, serveS_running onP, State.respondP_params, raisesNone]
    rfl

end Sys2Proof.Machine
end

section
/-! PROOFS. The step (spec 10_state.md section 6, 60_exceptions.md sections 4 and 5, 70_reset_and_hazards.md): what a step fetches, what
the two agents leave, and, said once, every outcome a step can have. -/

namespace Sys2Proof.Machine

open Safety

/-! ## What a step fetches -/

/-- Naming the rejection changes no decoded instruction. -/
theorem mapError_eq_ok_iff {ε ε' α : Type} (f : ε → ε') (x : Except ε α) (a : α) :
    x.mapError f = .ok a ↔ x = .ok a := by
  cases x <;> simp [Except.mapError]

/-- What an S word asks for is served on the S channel (R70). -/
theorem channel_of_decodeSReq {w : SReqWord} {i : Instr} (h : decodeSReq w = .ok i) : i.channel = .S := by
  unfold decodeSReq decodeEncodeReq at h
  repeat' split at h
  all_goals cases h
  all_goals rfl

/-- What a P word asks for is served on the P channel (R70). -/
theorem channel_of_decodePReq {w : PReqWord} {i : Instr} (h : decodePReq w = .ok i) : i.channel = .P := by
  unfold decodePReq at h
  split_ifs at h <;> cases h <;> rfl

/-- A command word is the parser's (assumption 3). -/
theorem channel_commandWord (c : Command) : (commandWord c).channel = .P := by
  rcases c with b | l | ⟨⟨v⟩⟩
  · cases b <;> rfl
  · cases l <;> rfl
  · rfl

/-- A received frame asks for PARSE of itself or for its command word, both of the P channel. -/
theorem channel_of_decodeFrame {w : FrameWord} {i : Instr} (h : decodeFrame w = .ok i) : i.channel = .P := by
  rw [decodeFrame_eq_frameClass] at h
  cases answer : parseFrame (frameOfBus w) with
  | ok c =>
    rw [answer] at h
    cases h
    exact channel_commandWord c
  | structuralError e => rw [answer] at h; cases e <;> cases h
  | decodeError e => rw [answer] at h; cases h

/-- The S word fetched is the one presented, decoded. -/
theorem fetchS_eq_some_iff (q : Option SReqWord) (i : Instr) :
    fetchS q = .ok (some i) ↔ ∃ w, q = some w ∧ decode (.sreq w) = .ok i := by
  cases q with
  | none => simp [fetchS]
  | some w => cases h : decodeSReq w <;> simp [fetchS, decode, h, Except.map, Except.mapError]

/-- The P request fetched is what is presented, read as `asksP` reads it. -/
theorem fetchP_eq_some_iff (q : Option PInput) (j : Instr) : fetchP q = .ok (some j) ↔ ∃ p, q = some p ∧ asksP p j := by
  cases q with
  | none => simp [fetchP]
  | some p =>
    cases p with
    | request w => cases h : decodePReq w <;> simp [fetchP, asksP, decode, h, Except.map, Except.mapError]
    | frame w => cases h : decodeFrame w <;> simp [fetchP, asksP, decode, h, Except.mapError, eq_comm]

/-- Nothing is fetched on S exactly when nothing is presented. -/
theorem fetchS_eq_none_iff (q : Option SReqWord) : fetchS q = .ok none ↔ q = none := by
  cases q with
  | none => simp [fetchS]
  | some w => cases h : decodeSReq w <;> simp [fetchS, h, Except.map]

/-- Nothing is fetched on P exactly when nothing is presented. -/
theorem fetchP_eq_none_iff (q : Option PInput) : fetchP q = .ok none ↔ q = none := by
  cases q with
  | none => simp [fetchP]
  | some p =>
    cases p with
    | request w => cases h : decodePReq w <;> simp [fetchP, h, Except.map]
    | frame w => cases h : decodeFrame w <;> simp [fetchP, h]

/-- What is fetched on S is there exactly when a word is presented, and is of the S channel. -/
theorem fetchS_spec {q : Option SReqWord} {si : Option Instr} (h : fetchS q = .ok si) :
    si.isSome = q.isSome ∧ ∀ i ∈ si, i.channel = .S := by
  cases si with
  | none => simp [(fetchS_eq_none_iff q).1 h]
  | some i =>
    obtain ⟨w, rfl, hdec⟩ := (fetchS_eq_some_iff q i).1 h
    simpa using channel_of_decodeSReq ((mapError_eq_ok_iff _ _ _).1 hdec)

/-- What is fetched on P is there exactly when something is presented, and is of the P channel. -/
theorem fetchP_spec {q : Option PInput} {pi : Option Instr} (h : fetchP q = .ok pi) :
    pi.isSome = q.isSome ∧ ∀ j ∈ pi, j.channel = .P := by
  cases pi with
  | none => simp [(fetchP_eq_none_iff q).1 h]
  | some j =>
    obtain ⟨p, rfl, asks⟩ := (fetchP_eq_some_iff q j).1 h
    suffices hj : j.channel = .P by simpa using hj
    cases p with
    | request w => exact channel_of_decodePReq ((mapError_eq_ok_iff _ _ _).1 asks)
    | frame w =>
      rcases asks with spelled | ⟨-, rfl⟩
      · exact channel_of_decodeFrame ((mapError_eq_ok_iff _ _ _).1 spelled)
      · rfl

/-- An ill-formed request word, on either channel (R71). -/
def IllFormed (inp : Inputs) : Prop :=
  (∃ w, inp.sReq = some w ∧ sReqWellFormed w = false) ∨ ∃ w, inp.pReq = some (.request w) ∧ pReqWellFormed w = false

/-- The S request is fetched unless its word is ill-formed (R71). -/
theorem fetchS_ok_iff (q : Option SReqWord) :
    (∃ si, fetchS q = .ok si) ↔ ¬ ∃ w, q = some w ∧ sReqWellFormed w = false := by
  cases q with
  | none => simp [fetchS]
  | some w =>
    have decoded : (∃ si, fetchS (some w) = .ok si) ↔ ∃ i, decodeSReq w = .ok i := by
      cases h : decodeSReq w <;> simp [fetchS, h, Except.map]
    rw [decoded, decodeSReq_ok_iff, ← sReqWellFormed_iff]
    simp

/-- The P request is fetched unless its word is ill-formed; a received frame always asks for something (R64, R71). -/
theorem fetchP_ok_iff (q : Option PInput) :
    (∃ pi, fetchP q = .ok pi) ↔ ¬ ∃ w, q = some (.request w) ∧ pReqWellFormed w = false := by
  cases q with
  | none => simp [fetchP]
  | some p =>
    cases p with
    | request w =>
      have decoded : (∃ pi, fetchP (some (.request w)) = .ok pi) ↔ ∃ j, decodePReq w = .ok j := by
        cases h : decodePReq w <;> simp [fetchP, h, Except.map]
      rw [decoded, decodePReq_ok_iff]
      simp
    | frame w => cases h : decodeFrame w <;> simp [fetchP, h]

/-- Both requests are fetched exactly when neither is ill-formed. -/
theorem fetch_ok_iff (inp : Inputs) :
    (∃ si pi, fetchS inp.sReq = .ok si ∧ fetchP inp.pReq = .ok pi) ↔ ¬ IllFormed inp := by
  rw [IllFormed, not_or, ← fetchS_ok_iff, ← fetchP_ok_iff]
  simp

/-! ## What the two agents leave -/

/-- With FAULT 0 the S agent leaves its frame, if it is asked for one, or its exception. -/
theorem execOption_serializer {si : Option Instr} (hsi : ∀ i ∈ si, i.channel = .S) :
    ∃ F : Option Frame, F.isSome = si.isSome ∧ F.all frameShape = true ∧
      ∀ s : State, s.fault = false → s.sRsp = none →
        execOption si s = .next (s.serialized F (si.bind (raises s.params))) := by
  cases si with
  | none =>
    refine ⟨none, rfl, rfl, fun s _ silent => ?_⟩
    rw [execOption, Option.bind_none, State.serialized, ← silent]
  | some i =>
    obtain ⟨F, shape, served⟩ := exec_serializer_legal (hsi i rfl)
    exact ⟨some F, rfl, shape, fun s hs _ => (served s).trans (serveS_running hs)⟩

/-- With FAULT 0 the P agent leaves its response, if it is asked for one. -/
theorem execOption_parser {pi : Option Instr} (hpi : ∀ j ∈ pi, j.channel = .P) :
    ∃ r : Config.Params → Option PResponse, (∀ p, (r p).isSome = pi.isSome ∧ (r p).all pResponseLegal = true) ∧
      ∀ s : State, s.fault = false → s.pRsp = none → execOption pi s = .next { s with pRsp := r s.params } := by
  cases pi with
  | none =>
    refine ⟨fun _ => none, fun _ => ⟨rfl, rfl⟩, fun s _ silent => ?_⟩
    rw [execOption, ← silent]
  | some j =>
    obtain ⟨r, legal, served⟩ := answeredByParser (hpi j rfl)
    exact ⟨fun p => some (r p), fun p => ⟨rfl, legal p⟩, fun s hs _ => (served s).trans (serveP_running hs)⟩

/-- With FAULT 1 an agent that shows nothing leaves everything as it is. -/
theorem execOption_faulted {q : Option Instr} {s : State} (hs : s.fault = true) (silentS : s.sRsp = none)
    (silentP : s.pRsp = none) : execOption q s = .next s := by
  cases q with
  | none => rfl
  | some i =>
    cases hc : i.channel with
    | S => rw [execOption, exec_serializer_faulted hc hs, State.silenceS, ← silentS]
    | P => rw [execOption, exec_parser_faulted hc hs, State.silenceP, ← silentP]

/-- What both agents leave from FAULT 0, given what each has to present and S's exception: after an exception P has answered only
where it was served first (R21, D24). -/
def State.servedBoth (s : State) (parserFirst : Bool) (F : Option Frame) (r : Option PResponse) : Option Unimplemented → State
  | none => { s with sRsp := F, pRsp := r }
  | some cause => { s.raiseUnimplemented cause with pRsp := if parserFirst then r else none }

/-- Both agents from FAULT 0, in either order. -/
theorem runBoth_running {s : State} {si pi : Option Instr} (parserFirst : Bool) (hs : s.fault = false) (silentS : s.sRsp = none)
    (silentP : s.pRsp = none) (hsi : ∀ i ∈ si, i.channel = .S) (hpi : ∀ j ∈ pi, j.channel = .P) :
    ∃ (F : Option Frame) (r : Option PResponse), F.isSome = si.isSome ∧ F.all frameShape = true ∧ r.isSome = pi.isSome ∧
      r.all pResponseLegal = true ∧ execOption pi s = .next { s with pRsp := r } ∧
      runBoth parserFirst si pi s = .next (s.servedBoth parserFirst F r (si.bind (raises s.params))) := by
  obtain ⟨F, hF, shape, servedS⟩ := execOption_serializer hsi
  obtain ⟨r, hr, servedP⟩ := execOption_parser hpi
  refine ⟨F, r s.params, hF, shape, (hr _).1, (hr _).2, servedP s hs silentP, ?_⟩
  unfold runBoth
  cases parserFirst with
  | true =>
    rw [if_pos rfl, servedP s hs silentP, andThen_next, servedS { s with pRsp := r s.params } hs silentS]
    cases si.bind (raises s.params) <;> rfl
  | false =>
    rw [if_neg Bool.false_ne_true, servedS s hs silentS, andThen_next]
    cases si.bind (raises s.params) with
    | none => exact servedP { s with sRsp := F } hs silentP
    | some cause =>
      have unserved := execOption_faulted (q := pi) (s := s.raiseUnimplemented cause) rfl rfl silentP
      rw [State.serialized, unserved, State.servedBoth, if_neg Bool.false_ne_true, ← silentP]
      rfl

/-! ## One step -/

/-- The outcome of a step that serves its requests. -/
theorem step_of_fetch {s : State} {inp : Inputs} {rest : List Inputs} {si pi : Option Instr} (hin : s.inputs = inp :: rest)
    (hrst : inp.rst = false) (hS : fetchS inp.sReq = .ok si) (hP : fetchP inp.pReq = .ok pi) :
    step s = outcomeOf (runBoth inp.parserFirst si pi s.beginStep) := by
  simp [step, cycle, hin, runInputs, hrst, hS, hP]

/-- A step that asserts `rst` (R160). -/
theorem step_rst {s : State} {inp : Inputs} {rest : List Inputs} (hin : s.inputs = inp :: rest) (hrst : inp.rst = true) :
    step s = .next s.beginStep.applyReset := by
  simp [step, cycle, hin, runInputs, hrst, outcomeOf]

/-- A step that presents an ill-formed request without `rst` is refused (R139). -/
theorem step_illFormed {s : State} {inp : Inputs} {rest : List Inputs} (hin : s.inputs = inp :: rest) (hrst : inp.rst = false)
    (ill : IllFormed inp) : ∃ why, step s = .refused why := by
  have unfetched := mt (fetch_ok_iff inp).1 (not_not.2 ill)
  simp only [step, cycle, hin, runInputs, hrst]
  cases hS : fetchS inp.sReq with
  | error why => exact ⟨_, rfl⟩
  | ok si =>
    cases hP : fetchP inp.pReq with
    | error why => exact ⟨_, rfl⟩
    | ok pi => exact absurd ⟨si, pi, hS, hP⟩ unfetched

/-- With no inputs left a step only begins (R160). -/
theorem step_noInputs {s : State} (hin : s.inputs = []) : step s = outcomeOf (.next s.beginStep) := by
  simp [step, cycle, hin]

/-- From FAULT 1 a step that serves its requests is stuck (U15). -/
theorem step_stuck {s : State} {inp : Inputs} {rest : List Inputs} {si pi : Option Instr} (hin : s.inputs = inp :: rest)
    (hrst : inp.rst = false) (hS : fetchS inp.sReq = .ok si) (hP : fetchP inp.pReq = .ok pi) (hs : s.fault = true) :
    step s = .fault (.stuck s.beginStep) := by
  have silent (q : Option Instr) : execOption q s.beginStep = .next s.beginStep := execOption_faulted hs rfl rfl
  have left : runBoth inp.parserFirst si pi s.beginStep = .next s.beginStep := by
    unfold runBoth
    split <;> simp only [silent, andThen_next]
  rw [step_of_fetch hin hrst hS hP, left, outcomeOf_stuck (t := s.beginStep) hs rfl]

/-- A step from FAULT 0 that serves its requests without an exception goes on with the responses (R21). -/
theorem outcomeOf_servedBoth_none {s : State} (hs : s.fault = false) (parserFirst : Bool) (F : Option Frame)
    (r : Option PResponse) : outcomeOf (.next (s.servedBoth parserFirst F r none)) = .next { s with sRsp := F, pRsp := r } :=
  outcomeOf_running hs

/-- A step in which S raises Unimplemented ends in that fault (R143). -/
theorem outcomeOf_servedBoth_some (s : State) (parserFirst : Bool) (F : Option Frame) (r : Option PResponse)
    (cause : Unimplemented) :
    outcomeOf (.next (s.servedBoth parserFirst F r (some cause))) =
      .fault (.unimplemented cause
        { s with fault := true, sRsp := none, pRsp := if parserFirst then r else none, raised := none }) := rfl

/-- Every outcome a step can have (10_state.md section 6; R139, R143, R160, U15), each with its cause. -/
inductive StepCase (s : State) : Host.Outcome State Fault Refusal → Prop where
  /-- `rst` is asserted. -/
  | reset (inp : Inputs) (rest : List Inputs) (hin : s.inputs = inp :: rest) (hrst : inp.rst = true) :
      StepCase s (.next s.beginStep.applyReset)
  /-- An ill-formed request is presented. -/
  | refused (inp : Inputs) (rest : List Inputs) (why : Refusal) (hin : s.inputs = inp :: rest) (hrst : inp.rst = false)
      (ill : IllFormed inp) : StepCase s (.refused why)
  /-- FAULT was 1 already. -/
  | stuck (hs : s.fault = true) (noRst : ∀ inp, s.inputs.head? = some inp → inp.rst = false) :
      StepCase s (.fault (.stuck s.beginStep))
  /-- Every request is answered. -/
  | answered (F : Option Frame) (r : Option PResponse) (hs : s.fault = false) (shape : F.all frameShape = true)
      (legal : r.all pResponseLegal = true)
      (answers : ∀ inp, s.inputs.head? = some inp → F.isSome = inp.sReq.isSome ∧ r.isSome = inp.pReq.isSome) :
      StepCase s (.next { s.beginStep with sRsp := F, pRsp := r })
  /-- The S request raises Unimplemented. -/
  | raised (inp : Inputs) (rest : List Inputs) (ws : SReqWord) (i : Instr) (cause : Unimplemented) (r : Option PResponse)
      (hs : s.fault = false) (hin : s.inputs = inp :: rest) (hrst : inp.rst = false) (hreq : inp.sReq = some ws)
      (hdec : decode (.sreq ws) = .ok i) (hraises : raises s.params i = some cause) (legal : r.all pResponseLegal = true) :
      StepCase s (.fault (.unimplemented cause { s.beginStep with fault := true, pRsp := r }))

/-- The inversion of a step. -/
theorem step_case (s : State) : StepCase s (step s) := by
  cases hin : s.inputs with
  | nil =>
    rw [step_noInputs hin]
    cases hs : s.fault with
    | true =>
      rw [outcomeOf_stuck (t := s.beginStep) hs rfl]
      exact .stuck hs (by simp [hin])
    | false =>
      rw [outcomeOf_running (t := s.beginStep) hs]
      exact .answered none none hs rfl rfl (by simp [hin])
  | cons inp rest =>
    cases hrst : inp.rst with
    | true => exact step_rst hin hrst ▸ .reset inp rest hin hrst
    | false =>
      by_cases ill : IllFormed inp
      · obtain ⟨why, refused⟩ := step_illFormed hin hrst ill
        exact refused ▸ .refused inp rest why hin hrst ill
      obtain ⟨si, pi, hS, hP⟩ := (fetch_ok_iff inp).2 ill
      cases hs : s.fault with
      | true => exact step_stuck hin hrst hS hP hs ▸ .stuck hs (by simp [hin, hrst])
      | false =>
        obtain ⟨presentedS, channelS⟩ := fetchS_spec hS
        obtain ⟨presentedP, channelP⟩ := fetchP_spec hP
        obtain ⟨F, r, hF, shape, hr, legal, -, left⟩ :=
          runBoth_running (s := s.beginStep) inp.parserFirst hs rfl rfl channelS channelP
        rw [step_of_fetch hin hrst hS hP, left]
        cases hcause : si.bind (raises s.params) with
        | none =>
          rw [State.beginStep_params, hcause, outcomeOf_servedBoth_none (s := s.beginStep) hs]
          refine .answered F r hs shape legal fun inp' head => ?_
          rw [hin] at head
          cases head
          exact ⟨hF.trans presentedS, hr.trans presentedP⟩
        | some cause =>
          obtain ⟨i, rfl, hraises⟩ := Option.bind_eq_some_iff.1 hcause
          obtain ⟨ws, hreq, hdec⟩ := (fetchS_eq_some_iff _ _).1 hS
          rw [State.beginStep_params, hcause, outcomeOf_servedBoth_some]
          refine .raised inp rest ws i cause (if inp.parserFirst then r else none) hs hin hrst hreq hdec hraises ?_
          cases inp.parserFirst
          · rfl
          · exact legal

end Sys2Proof.Machine
end

section
/-! PROOFS. What holds of every step and run (spec 10_state.md sections 3, 6 and 8, 60_exceptions.md sections 4 and 5,
70_reset_and_hazards.md): refusals, faults and reset, the invariant of the outputs, and a dutiful host's run. -/

namespace Sys2Proof.Machine

open Safety

/-- The state a step begins in, where it has inputs (assumption 1). -/
theorem beginStep_of_inputs {s : State} {inp : Inputs} {rest : List Inputs} (hin : s.inputs = inp :: rest) :
    s.beginStep = { s with inputs := rest, sRsp := none, pRsp := none, raised := none } := by
  rw [State.beginStep, hin, List.tail_cons]

/-! ## One request -/

/-- With no request beside it an instruction's outcome is the step's. -/
theorem runBoth_alone (parserFirst : Bool) (i : Instr) (s : State) :
    runBoth parserFirst (some i) none s = exec i s ∧ runBoth parserFirst none (some i) s = exec i s := by
  have thenNothing (o : Host.Outcome State Fault Refusal) : andThen o (execOption none) = o := by cases o <;> rfl
  cases parserFirst with
  | true => exact ⟨rfl, thenNothing (exec i s)⟩
  | false => exact ⟨thenNothing (exec i s), rfl⟩

/-- A step with an S request alone is the outcome of its instruction. -/
theorem step_serializer_alone {s : State} {inp : Inputs} {rest : List Inputs} {w : SReqWord} {i : Instr}
    (hin : s.inputs = inp :: rest) (hrst : inp.rst = false) (hS : inp.sReq = some w) (hP : inp.pReq = none)
    (hdec : decode (.sreq w) = .ok i) : step s = outcomeOf (exec i s.beginStep) := by
  rw [step_of_fetch hin hrst ((fetchS_eq_some_iff _ i).2 ⟨w, hS, hdec⟩) ((fetchP_eq_none_iff _).2 hP), (runBoth_alone _ i _).1]

/-- A step with a P request alone is the outcome of the instruction it asks for. -/
theorem step_parser_alone {s : State} {inp : Inputs} {rest : List Inputs} {p : PInput} {j : Instr}
    (hin : s.inputs = inp :: rest) (hrst : inp.rst = false) (hS : inp.sReq = none) (hP : inp.pReq = some p)
    (asks : asksP p j) : step s = outcomeOf (exec j s.beginStep) := by
  rw [step_of_fetch hin hrst ((fetchS_eq_none_iff _).2 hS) ((fetchP_eq_some_iff _ j).2 ⟨p, hP, asks⟩), (runBoth_alone _ j _).2]

/-- Settles O40: the request fetched is the word decoded, and the other agent has nothing to do. -/
theorem stepRunsTheDecodedInstruction : Obligations.StepRunsTheDecodedInstruction := by
  unfold Obligations.StepRunsTheDecodedInstruction
  intro s inp rest i hin hrst presented
  rw [← beginStep_of_inputs hin]
  rcases presented with ⟨⟨w, hS, hdec⟩, hP⟩ | ⟨hS, w, hP, hdec⟩ | ⟨hS, w, hP, hdec⟩
  · exact step_serializer_alone hin hrst hS hP hdec
  · exact step_parser_alone hin hrst hS hP hdec
  · exact step_parser_alone hin hrst hS hP (.inl hdec)

/-- Settles O41: a frame that spells no command asks for PARSE of itself. -/
theorem stepParsesFramesThatSpellNoCommand : Obligations.StepParsesFramesThatSpellNoCommand := by
  unfold Obligations.StepParsesFramesThatSpellNoCommand
  intro s inp rest w why hin hrst hS hP hdec
  rw [← beginStep_of_inputs hin]
  exact step_parser_alone hin hrst hS hP (.inr ⟨⟨why, hdec⟩, rfl⟩)

/-- Settles O52: the word placed is presented alone in the next step. -/
theorem placedTableWordRunsNext : Obligations.PlacedTableWordRunsNext := by
  unfold Obligations.PlacedTableWordRunsNext decodeTableWord State.withFetchWord
  intro s nbits w i hdec
  have decodes : decode (presentedOfTable nbits w) = .ok i := by
    cases h : decode (presentedOfTable nbits w) with
    | ok i' =>
      rw [h] at hdec
      cases hdec
      rfl
    | error why =>
      rw [h] at hdec
      cases hdec
  show step _ = outcomeOf (exec i (s.present (presentedOfTable nbits w)).beginStep)
  cases hp : presentedOfTable nbits w with
  | sreq w =>
    rw [hp] at decodes
    exact step_serializer_alone (State.present_inputs _ _) rfl rfl rfl decodes
  | preq w =>
    rw [hp] at decodes
    exact step_parser_alone (State.present_inputs _ _) rfl rfl rfl decodes
  | frame w =>
    rw [hp] at decodes
    exact step_parser_alone (State.present_inputs _ _) rfl rfl rfl (.inl decodes)

/-! ## Two requests -/

/-- An instruction always goes on (R21, R142). -/
theorem exec_goesOn (i : Instr) (s : State) : ∃ t, exec i s = .next t := by
  cases hc : i.channel with
  | S =>
    obtain ⟨F, -, served⟩ := exec_serializer_legal hc
    exact ⟨_, served s⟩
  | P =>
    obtain ⟨r, -, served⟩ := answeredByParser hc
    exact ⟨_, served s⟩

/-- Settles O42: both instructions run, the second from what the first left. -/
theorem stepRunsBothRequests : Obligations.StepRunsBothRequests := by
  unfold Obligations.StepRunsBothRequests
  intro s inp rest ws p i j hin hrst hS hP hdec asks
  rw [← beginStep_of_inputs hin, step_of_fetch hin hrst ((fetchS_eq_some_iff _ i).2 ⟨ws, hS, hdec⟩)
    ((fetchP_eq_some_iff _ j).2 ⟨p, hP, asks⟩)]
  cases inp.parserFirst with
  | true =>
    obtain ⟨t, left⟩ := exec_goesOn j s.beginStep
    exact ⟨t, left, by simp [runBoth, execOption, left]⟩
  | false =>
    obtain ⟨t, left⟩ := exec_goesOn i s.beginStep
    exact ⟨t, left, by simp [runBoth, execOption, left]⟩

/-- A step from FAULT 0 whose S request raises Unimplemented, beside any P request: the fault, and what P got (R21, D24, R143). -/
theorem step_raising {s : State} {inp : Inputs} {rest : List Inputs} {ws : SReqWord} {i : Instr} {cause : Unimplemented}
    {pi : Option Instr} (hs : s.fault = false) (hin : s.inputs = inp :: rest) (hrst : inp.rst = false)
    (hS : inp.sReq = some ws) (hdec : decode (.sreq ws) = .ok i) (hraises : raises s.params i = some cause)
    (hP : fetchP inp.pReq = .ok pi) :
    ∃ r : Option PResponse, r.isSome = pi.isSome ∧ execOption pi s.beginStep = .next { s.beginStep with pRsp := r } ∧
      step s = .fault (.unimplemented cause
        { s with inputs := rest, fault := true, sRsp := none, pRsp := if inp.parserFirst then r else none, raised := none }) := by
  have fetched := (fetchS_eq_some_iff _ i).2 ⟨ws, hS, hdec⟩
  obtain ⟨F, r, -, -, hr, -, answered, left⟩ :=
    runBoth_running (s := s.beginStep) inp.parserFirst hs rfl rfl (fetchS_spec fetched).2 (fetchP_spec hP).2
  refine ⟨r, hr, answered, ?_⟩
  rw [step_of_fetch hin hrst fetched hP, left, Option.bind_some, State.beginStep_params, hraises, outcomeOf_servedBoth_some,
    beginStep_of_inputs hin]

/-- Settles O44: the step ends in the fault, P's response given where P was first. -/
theorem bothOrdersWhenTheSerializerFaults : Obligations.BothOrdersWhenTheSerializerFaults := by
  unfold Obligations.BothOrdersWhenTheSerializerFaults
  intro s ws p i j cause rest hs hdec asks hcause
  have raising (parserFirst : Bool) := step_raising
    (s := { s with inputs := { rst := false, sReq := some ws, pReq := some p, parserFirst := parserFirst } :: rest })
    hs rfl rfl rfl hdec ((raises_eq_some_iff _ _ _).2 hcause) ((fetchP_eq_some_iff _ j).2 ⟨p, rfl, asks⟩)
  obtain ⟨r, hr, answered, first⟩ := raising true
  obtain ⟨_, -, -, second⟩ := raising false
  obtain ⟨r, rfl⟩ := Option.isSome_iff_exists.1 hr
  exact ⟨r, answered, first, second⟩

/-- Settles O54: the step of O44, alone or beside any P request. -/
theorem stepFaultsOnUnimplemented : Obligations.StepFaultsOnUnimplemented := by
  unfold Obligations.StepFaultsOnUnimplemented
  intro s inp rest ws i cause hs hin hrst hS hdec hcause
  have hraises := (raises_eq_some_iff _ _ _).2 hcause
  refine ⟨fun hP => ?_, fun p j hP asks => ?_⟩
  · obtain ⟨r, hr, -, faults⟩ := step_raising hs hin hrst hS hdec hraises ((fetchP_eq_none_iff _).2 hP)
    obtain rfl : r = none := by simpa using hr
    rwa [ite_self] at faults
  · obtain ⟨r, -, -, faults⟩ := step_raising hs hin hrst hS hdec hraises ((fetchP_eq_some_iff _ j).2 ⟨p, hP, asks⟩)
    exact ⟨_, faults⟩

/-! ## Refusals, faults, reset -/

/-- Settles O58: one law of `outcomeOf` per clause. -/
theorem outcomeOfAFaultedStateIsAFault : Obligations.OutcomeOfAFaultedStateIsAFault := by
  unfold Obligations.OutcomeOfAFaultedStateIsAFault
  exact ⟨fun t hs => outcomeOf_running hs, fun t cause hs hr => outcomeOf_raised hs hr, fun t hs hr => outcomeOf_stuck hs hr,
    fun _ => rfl⟩

/-- Settles O45: the inversion gives the ill-formed request, and such a request is refused. -/
theorem stepRefusesExactlyIllFormedRequests : Obligations.StepRefusesExactlyIllFormedRequests := by
  unfold Obligations.StepRefusesExactlyIllFormedRequests
  intro s
  constructor
  · rintro ⟨why, refused⟩
    have outcome := step_case s
    rw [refused] at outcome
    cases outcome with
    | refused inp rest _ hin hrst ill => exact ⟨inp, rest, hin, hrst, ill⟩
  · rintro ⟨inp, rest, hin, hrst, ill⟩
    exact step_illFormed hin hrst ill

/-- Settles O39: of the outcomes a step can have, FAULT 1 and no `rst` leave these two. -/
theorem onlyResetClearsFault : Obligations.OnlyResetClearsFault := by
  unfold Obligations.OnlyResetClearsFault
  intro s hs noRst
  generalize hstep : step s = o
  have outcome := step_case s
  rw [hstep] at outcome
  cases outcome with
  | reset inp rest hin hrst => cases hrst.symm.trans (noRst inp (by rw [hin, List.head?_cons]))
  | refused inp rest why hin hrst ill => exact .inr ⟨inp, rest, why, hin, rfl, ill⟩
  | stuck _ _ => exact .inl rfl
  | answered F r running => cases running.symm.trans hs
  | raised inp rest ws i cause r running => cases running.symm.trans hs

/-- Settles O55: the inversion gives each kind of fault its cause. -/
theorem onlyUnimplementedAndFaultedBlocksFault : Obligations.OnlyUnimplementedAndFaultedBlocksFault := by
  unfold Obligations.OnlyUnimplementedAndFaultedBlocksFault
  intro s r faults
  have outcome := step_case s
  rw [faults] at outcome
  cases outcome with
  | stuck hs noRst => exact ⟨noRst, hs⟩
  | raised inp rest ws i cause _ hs hin hrst hreq hdec hraises =>
    refine ⟨fun inp' head => ?_, hs, inp, rest, ws, i, hin, hreq, hdec, (raises_eq_some_iff _ _ _).1 hraises⟩
    rw [hin] at head
    cases head
    exact hrst

/-- Settles O38: reset clears what the step began with. -/
theorem rstPutsTheInitialState : Obligations.RstPutsTheInitialState := by
  unfold Obligations.RstPutsTheInitialState
  intro s inp rest hin hrst
  rw [step_rst hin hrst, beginStep_of_inputs hin]
  rfl

/-- Settles O37: the reset state is given field by field. -/
theorem resetState : Obligations.ResetState := by
  unfold Obligations.ResetState
  exact ⟨rfl, rfl, rfl, rfl, rfl, rfl, rfl⟩

/-- Settles O46: with nothing fetched no agent moves, and FAULT 0 lets the step go on. -/
theorem idleStepOnlyWaits : Obligations.IdleStepOnlyWaits := by
  unfold Obligations.IdleStepOnlyWaits
  intro s hs idle
  rcases idle with hin | ⟨inp, rest, hin, hrst, hS, hP⟩
  · rw [step_noInputs hin]
    exact outcomeOf_running hs
  · rw [step_of_fetch hin hrst ((fetchS_eq_none_iff _).2 hS) ((fetchP_eq_none_iff _).2 hP)]
    cases inp.parserFirst <;> exact outcomeOf_running hs

/-! ## What every step keeps -/

/-- Settles O47: a step begins without the responses an earlier one left. -/
theorem responsesDependOnTheRequestOnly : Obligations.ResponsesDependOnTheRequestOnly := by
  unfold Obligations.ResponsesDependOnTheRequestOnly
  intro s t hfault hparams hinputs
  have sameStart : s.beginStep = t.beginStep := by simp only [State.beginStep, hfault, hparams, hinputs]
  simp only [step, cycle, hinputs, sameStart]

/-- Settles O48: no outcome of a step touches the parameters, and each is made from the state it begins in. -/
theorem parametersNeverChange : Obligations.ParametersNeverChange := by
  unfold Obligations.ParametersNeverChange
  refine ⟨fun s t next => ?_, fun s r faults => ?_⟩
  · have outcome := step_case s
    rw [next] at outcome
    cases outcome <;> exact ⟨rfl, rfl⟩
  · have outcome := step_case s
    rw [faults] at outcome
    cases outcome <;> exact ⟨rfl, rfl⟩

/-- A next state has FAULT 0 (R143). -/
theorem fault_of_step_next {s t : State} (next : step s = .next t) : t.fault = false := (outcomeOf_next next).2

/-- A run of one step more goes on from a next state. -/
theorem run_succ_next {M : Host.Core} {n : Nat} {s t : M.State} (run : M.run (n + 1) s = .next t) :
    ∃ s', M.step s = .next s' ∧ M.run n s' = .next t := by
  rw [Host.Core.run] at run
  cases next : M.step s with
  | next s' => exact ⟨s', rfl, by rwa [next] at run⟩
  | fault r => rw [next] at run; cases run
  | refused r => rw [next] at run; cases run

/-- Settles O56: by induction on the length of the run, each state of which is the start or a next state. -/
theorem faultedStatesAreNeverFinal : Obligations.FaultedStatesAreNeverFinal := by
  unfold Obligations.FaultedStatesAreNeverFinal
  refine ⟨fun s t next => fault_of_step_next next, fun n => ?_⟩
  induction n with
  | zero =>
    intro s t hs run
    cases run
    exact hs
  | succ n ih =>
    intro s t hs run
    obtain ⟨s', next, goesOn⟩ := run_succ_next (M := Sys2Proof.core) run
    exact ih s' t (fault_of_step_next next) goesOn

/-- Settles O57: every fault leaves FAULT 1 and the parameters, and reset the rest. -/
theorem rstRecoversFromAFault : Obligations.RstRecoversFromAFault := by
  unfold Obligations.RstRecoversFromAFault
  intro s r inp rest faults hrst
  obtain ⟨sameParams, -⟩ := parametersNeverChange.2 s r faults
  refine ⟨?_, ?_⟩
  · have outcome := step_case s
    rw [faults] at outcome
    cases outcome with
    | stuck hs _ => exact hs
    | raised => rfl
  · rw [← sameParams]
    exact step_rst rfl hrst

/-- Settles O49: reset shows nothing. -/
theorem outputsLegalAtReset : Obligations.OutputsLegalAtReset := by
  unfold Obligations.OutputsLegalAtReset
  rfl

/-- Legal answers on a block with FAULT 0 are legal outputs. -/
theorem outputsLegal_answered {s : State} {F : Option Frame} {r : Option PResponse} (hs : s.fault = false)
    (shape : F.all frameShape = true) (legal : r.all pResponseLegal = true) :
    outputsLegal { s.beginStep with sRsp := F, pRsp := r } = true := by
  simp [outputsLegal, shape, legal, hs]

/-- LightEncode is raised only where the Light encoder is not implemented (R102). -/
theorem lightEncode_unimplemented {p : Config.Params} {i : Instr} {cause : Unimplemented}
    (hraises : raises p i = some cause) : (cause != .lightEncode || !p.LIGHT_ENCODE_IMPLEMENTED) = true := by
  rcases (raises_eq_some_iff _ _ _).1 hraises with ⟨-, rfl⟩ | ⟨-, hl, rfl⟩
  · rfl
  · rw [hl]
    rfl

/-- Settles O50: the inversion gives each outcome its frame, its response or its cause, each legal. -/
theorem outputsStayLegal : Obligations.OutputsStayLegal := by
  unfold Obligations.OutputsStayLegal
  intro s _
  refine ⟨fun t next => ?_, fun r faults => ?_⟩
  · have outcome := step_case s
    rw [next] at outcome
    cases outcome with
    | reset => rfl
    | answered F r hs shape legal => exact outputsLegal_answered hs shape legal
  · have outcome := step_case s
    rw [faults] at outcome
    cases outcome with
    | stuck hs => simp [faultLegal, outputsLegal, hs]
    | raised inp rest ws i cause r _ _ _ _ _ hraises legal =>
      rw [faultLegal, Bool.and_eq_true, Bool.and_eq_true]
      exact ⟨⟨rfl, by simp [outputsLegal, legal]⟩, lightEncode_unimplemented hraises⟩

/-! ## A dutiful host -/

/-- A host that keeps its duties presents nothing ill-formed without `rst`, nothing fatal, and nothing beside `rst` (R172). -/
theorem dutiful_spec {p : Config.Params} {inp : Inputs} (h : dutiful p inp = true) :
    (inp.rst = true → inp.sReq = none ∧ inp.pReq = none) ∧
    (inp.rst = false → ¬ IllFormed inp ∧
      ∀ ws i, inp.sReq = some ws → decode (.sreq ws) = .ok i → raises p i = none) := by
  unfold dutiful at h
  cases hrst : inp.rst with
  | true =>
    rw [hrst, if_pos rfl] at h
    exact ⟨fun _ => by simpa using h, nofun⟩
  | false =>
    rw [hrst, if_neg Bool.false_ne_true] at h
    refine ⟨nofun, fun _ => ?_⟩
    cases hS : fetchS inp.sReq with
    | error why => simp [hS] at h
    | ok si =>
      cases hP : fetchP inp.pReq with
      | error why => simp [hS, hP] at h
      | ok pi =>
        refine ⟨(fetch_ok_iff inp).1 ⟨si, pi, hS, hP⟩, fun ws i hreq hdec => ?_⟩
        obtain rfl : si = some i := by
          have fetched := (fetchS_eq_some_iff _ i).2 ⟨ws, hreq, hdec⟩
          rw [hS] at fetched
          cases fetched
          rfl
        simpa [hS, hP, fatalOperation] using h

/-- A dutiful host's step goes on and answers every request (R171). -/
theorem step_of_dutiful {s : State} (hs : s.fault = false) (duties : ∀ inp ∈ s.inputs, dutiful s.params inp = true) :
    ∃ t, step s = .next t ∧ ∀ inp, s.inputs.head? = some inp → answered inp t = true := by
  generalize hstep : step s = o
  have outcome := step_case s
  rw [hstep] at outcome
  cases outcome with
  | reset inp rest hin hrst =>
    obtain ⟨hS, hP⟩ := (dutiful_spec (duties inp (by simp [hin]))).1 hrst
    refine ⟨_, rfl, fun inp' head => ?_⟩
    obtain rfl : inp = inp' := by simpa [hin] using head
    simp [answered, hS, hP]
  | refused inp rest why hin hrst ill =>
    exact absurd ill ((dutiful_spec (duties inp (by simp [hin]))).2 hrst).1
  | stuck faulted => cases hs.symm.trans faulted
  | answered F r _ _ _ answers =>
    refine ⟨_, rfl, fun inp head => ?_⟩
    obtain ⟨hF, hr⟩ := answers inp head
    simp only [answered, hF, hr]
    cases inp.sReq <;> cases inp.pReq <;> rfl
  | raised inp rest ws i cause r _ hin hrst hreq hdec hraises =>
    cases hraises.symm.trans (((dutiful_spec (duties inp (by simp [hin]))).2 hrst).2 ws i hreq hdec)

/-- Settles O51: by induction on the length of the run; a dutiful host's step goes on, and the duties that are left are the same. -/
theorem dutifulHostGetsAGoodRun : Obligations.DutifulHostGetsAGoodRun := by
  unfold Obligations.DutifulHostGetsAGoodRun
  intro s hs duties n
  induction n generalizing s with
  | zero => rw [goodRun, hs]; rfl
  | succ n ih =>
    obtain ⟨t, next, answers⟩ := step_of_dutiful hs duties
    obtain ⟨sameParams, usedUp⟩ := parametersNeverChange.1 s t next
    have goesOn := ih t (fault_of_step_next next) (by
      intro inp hinp
      rw [sameParams]
      exact duties inp (List.mem_of_mem_tail (usedUp ▸ hinp)))
    rw [goodRun, next]
    cases hin : s.inputs with
    | nil => simpa using goesOn
    | cons inp rest => simp [goesOn, answers inp (by rw [hin, List.head?_cons])]

end Sys2Proof.Machine
end
